-- ==== Sys2Proof/Word.lean ====
section
/-! DEFINITION. The byte of the two links and the Dock Net, and the index of a dock record. -/

namespace Sys2Proof

/-- A byte of a link frame or a Dock Net payload (R179, R163). -/
abbrev Byte := BitVec 8

/-- The index of a dock record: the record of dock address 1 has index 0, that of address 40 index 39 (R1). -/
abbrev Dock := Fin 40

/-- The Dock Net address of a dock record, 1..40 (spec 4.4). -/
def Dock.addr (d : Dock) : Nat := d.val + 1

/-- The forty dock records in address order. -/
def Dock.all : List Dock := List.finRange 40

end Sys2Proof
end

