-- ==== Sys2Proof/Syntax.lean ====
section
/-! DEFINITION. The commands of the part, one constructor for each row of spec/opcode_table.json. The table names no
operands; each constructor carries what the rule of its row names (log 20). -/

namespace Sys2Proof

/-- The two serial links (spec 1, R179). -/
inductive Link where
  | grid
  | fleet
  deriving DecidableEq, Repr

/-- How an attempt that kept the line ended (R165): a transmit error at some bit, or a whole frame, whose ack slot
was read dominant or recessive. -/
inductive AttemptEnd where
  | transmitError
  | wholeFrame (ackDominant : Bool)
  deriving DecidableEq, Repr

/-- The commands. Addresses, ids and times are the numbers the rules use; payloads and bodies are bytes. -/
inductive Instr where
  /-- R2, R126: `tripLow` is the level of TRIPn when the reset ends. -/
  | deviceReset (tripLow : Bool)
  /-- R5, R167: a STATUS received whole, from `source`, to 0 or (`broadcast`) to 63, with its payload. -/
  | status (source : Nat) (broadcast : Bool) (payload : List Byte)
  /-- R176, R167: an ECHO received whole. -/
  | echoReply (source : Nat) (broadcast : Bool) (payload : List Byte)
  | foreignFrame
  /-- R167, R163: a frame received in error; `ackDriven`: its check was found equal and its ack slot driven before the error in ack delimiter or
  end. -/
  | frameInError (ackDriven : Bool := false)
  | transmitStart
  | arbitrationLost
  | transmitAttemptEnd (how : AttemptEnd)
  | recoveryTimerExpiry
  | echoWaitExpiry
  | reportTimeout (dock : Nat)
  | silentGraceExpiry (dock : Nat)
  | allocationTimerExpiry
  | tripAssertion
  | tripRelease
  | holdoffExpiry
  | uptimeSecond
  | depotSecond
  | dayRollover
  | planDue (vehicle : Nat)
  | eventStart
  | eventEnd
  | settlementBoundary
  | halfHourBoundary
  | overrideExpiry
  | intervalAExpiry
  | intervalBExpiry
  | meterExportPulse
  | meterImportPulse
  /-- R182: a good frame of `kind` with `body` on `link`. -/
  | goodFrame (link : Link) (kind : Byte) (body : List Byte)
  | badFrame (link : Link)
  | linkGapTimeout (link : Link)
  | quietTimerExpiry (link : Link)
  | linkFrameSent (link : Link)
  | unknownKindRequest (link : Link) (kind : Byte)
  | timeSet (t : Nat)
  | timeTrim (d : Int)
  | headroomLoad (first : Nat) (daily : Bool) (values : List Nat)
  | headroomOverride (value expiry : Nat)
  | tripHoldoffSet (seconds : Nat)
  | dispatchCall (id start stop target minAccept : Nat)
  | dispatchRevise (id target stop : Nat)
  | dispatchCancel (id : Nat)
  | offerQuery (start stop : Nat)
  | resultQuery (id first : Nat)
  | planLoad (vehicle departure energy : Nat) (afterEvent shortHoldOff : Bool)
  | planDelete (vehicle : Nat)
  | planQueryOne (vehicle : Nat)
  | planQueryPage (vehicle : Nat)
  | holdSetLockout (vehicle : Nat)
  | holdSetHold (vehicle : Nat)
  | holdClear (vehicle : Nat)
  | parameterSet (id value : Nat)
  | parameterQuery (id : Nat)
  /-- R113: the entries as the request body has them, a group 0..3 or 255 for NONE. -/
  | rotationSet (yieldOn : Bool) (entries : List Nat)
  | groupSet (dock group : Nat)
  | dockManual (dock : Nat) (value : Int)
  | dockAuto (dock : Nat)
  | dockEnable (dock : Nat)
  | dockDisable (dock : Nat)
  | dockClear (dock : Nat)
  | netRestart
  | echoTest (dock count : Nat)
  | echoQuery
  | queueQuery (link : Link)
  | queueQueryParticipants (link : Link) (first : Nat)
  | siteQuery (link : Link)
  | clockQuery (link : Link)
  | linkQuery (link : Link)
  | dockQuery (link : Link) (dock : Nat)
  | dockQuerySummary (link : Link)
  | syncByteBeginsFrame (link : Link)
  deriving DecidableEq, Repr

end Sys2Proof
end

