-- ==== Sys2Proof/WellFormed.lean ====
section
/-! DEFINITION. Which commands the wire can carry: every operand fits the field that carries it (R163, R179, R189, R191). -/

namespace Sys2Proof

/-- A value fits an unsigned field of `n` bytes (R188). -/
def fitsBytes (n v : Nat) : Bool := decide (v < 256 ^ n)

/-- A signed value fits a field of two bytes (R188). -/
def fitsSigned16 (v : Int) : Bool := decide (-32768 ≤ v) && decide (v ≤ 32767)

/-- The kinds of the catalogue: Grid 0x10..0x19, Fleet 0x30..0x40, shared 0x60..0x64 (R183). -/
def catalogueKind (k : Byte) : Bool :=
  (decide (0x10 ≤ k.toNat) && decide (k.toNat ≤ 0x19)) || (decide (0x30 ≤ k.toNat) && decide (k.toNat ≤ 0x40)) ||
    (decide (0x60 ≤ k.toNat) && decide (k.toNat ≤ 0x64))

/-- A six-bit Dock Net source with a payload of the length field's range (R163). -/
def netFrameFits (source : Nat) (payload : List Byte) : Bool := decide (source < 64) && decide (payload.length ≤ 24)

/-- The check on each command: its operands fit the fields that carry them. -/
def Instr.wellFormed : Instr → Bool
  | .status source _ payload => netFrameFits source payload
  | .echoReply source _ payload => netFrameFits source payload
  | .reportTimeout dock => decide (1 ≤ dock) && decide (dock ≤ 40)
  | .silentGraceExpiry dock => decide (1 ≤ dock) && decide (dock ≤ 40)
  | .planDue vehicle => decide (1 ≤ vehicle) && decide (vehicle ≤ 65534)
  | .goodFrame _ _ body => decide (body.length ≤ 249)
  | .unknownKindRequest _ kind => !catalogueKind kind
  | .timeSet t => fitsBytes 4 t
  | .timeTrim d => fitsSigned16 d
  | .headroomLoad first _ values => fitsBytes 1 first && decide (values.length ≤ 123) && values.all (fitsBytes 2)
  | .headroomOverride value expiry => fitsBytes 2 value && fitsBytes 4 expiry
  | .tripHoldoffSet seconds => fitsBytes 2 seconds
  | .dispatchCall id start stop target minAccept =>
    fitsBytes 2 id && fitsBytes 4 start && fitsBytes 4 stop && fitsBytes 2 target && fitsBytes 2 minAccept
  | .dispatchRevise id target stop => fitsBytes 2 id && fitsBytes 2 target && fitsBytes 4 stop
  | .dispatchCancel id => fitsBytes 2 id
  | .offerQuery start stop => fitsBytes 4 start && fitsBytes 4 stop
  | .resultQuery id first => fitsBytes 2 id && fitsBytes 1 first
  | .planLoad vehicle departure energy _ _ => fitsBytes 2 vehicle && fitsBytes 4 departure && fitsBytes 2 energy
  | .planDelete vehicle => fitsBytes 2 vehicle
  | .planQueryOne vehicle => fitsBytes 2 vehicle
  | .planQueryPage vehicle => fitsBytes 2 vehicle
  | .holdSetLockout vehicle => fitsBytes 2 vehicle
  | .holdSetHold vehicle => fitsBytes 2 vehicle
  | .holdClear vehicle => fitsBytes 2 vehicle
  | .parameterSet id value => fitsBytes 1 id && fitsBytes 2 value
  | .parameterQuery id => fitsBytes 1 id
  | .rotationSet _ entries => decide (entries.length ≤ 247) && entries.all (fitsBytes 1)
  | .groupSet dock group => fitsBytes 1 dock && fitsBytes 1 group
  | .dockManual dock value => fitsBytes 1 dock && fitsSigned16 value
  | .dockAuto dock => fitsBytes 1 dock
  | .dockEnable dock => fitsBytes 1 dock
  | .dockDisable dock => fitsBytes 1 dock
  | .dockClear dock => fitsBytes 1 dock
  | .echoTest dock count => fitsBytes 1 dock && fitsBytes 1 count
  | .queueQueryParticipants _ first => fitsBytes 1 first
  | .dockQuery _ dock => fitsBytes 1 dock && decide (dock ≠ 0)
  | .deviceReset _ => true
  | .foreignFrame => true
  | .frameInError _ => true
  | .transmitStart => true
  | .arbitrationLost => true
  | .transmitAttemptEnd _ => true
  | .recoveryTimerExpiry => true
  | .echoWaitExpiry => true
  | .allocationTimerExpiry => true
  | .tripAssertion => true
  | .tripRelease => true
  | .holdoffExpiry => true
  | .uptimeSecond => true
  | .depotSecond => true
  | .dayRollover => true
  | .eventStart => true
  | .eventEnd => true
  | .settlementBoundary => true
  | .halfHourBoundary => true
  | .overrideExpiry => true
  | .intervalAExpiry => true
  | .intervalBExpiry => true
  | .meterExportPulse => true
  | .meterImportPulse => true
  | .badFrame _ => true
  | .linkGapTimeout _ => true
  | .quietTimerExpiry _ => true
  | .linkFrameSent _ => true
  | .netRestart => true
  | .echoQuery => true
  | .queueQuery _ => true
  | .siteQuery _ => true
  | .clockQuery _ => true
  | .linkQuery _ => true
  | .dockQuerySummary _ => true
  | .syncByteBeginsFrame _ => true

end Sys2Proof
end

