-- ==== Sys2Proof/Decode.lean ====
section
/-! DEFINITION. The command a word of the opcode table spells. The table gives no row any bits (every "fields" is empty and
no row has "fixed"), so no word spells a command. -/

namespace Sys2Proof

/-- No row of spec/opcode_table.json gives bits: a word of any width spells no command. -/
def decodeTableWord (_nbits _w : Nat) : Option Instr := none

end Sys2Proof
end

