-- ==== Sys2Proof/Config.lean ====
section
/-! DEFINITION. The free values of the model: constants without a body, so that no proof can see what they are. -/

namespace Sys2Proof.Config

/-- The free order of things the spec takes "in no order among themselves" or "in either order" within one event
(R160, R121, R133, R155, R161). The n-th draw gives item i the key `orderKey n i`; the items are taken by rising key.
Every order is given by some keys, so nothing is known of the order taken. DESIGN CHOICE: log 5, log 6. -/
opaque orderKey : Nat → Nat → Nat

/-- The free value of an energy count of the event tally (dock export Wh, dock intake Wh, of the tally or of the interval
in progress) whose exact sum leaves the stated range 0..4,294,967,295: R142 states the range and neither saturates nor wraps.
The argument is the exact sum; the value used is taken within the range. DESIGN CHOICE: log 11. -/
opaque energyBeyondRange : Nat → Nat

/-- The free value of a meter net whose exact sum leaves the stated range -2,147,483,648..2,147,483,647 (R141).
The argument is the exact sum; the value used is taken within the range. DESIGN CHOICE: log 11. -/
opaque meterNetBeyondRange : Int → Int

/-- Whether, at the n-th draw, a cancel or a revise that waits next is taken before the end or the start, at this depot moment, of the record it
names (R69, R72: either may be first). DESIGN CHOICE: log 35. -/
opaque requestFirst : Nat → Bool

end Sys2Proof.Config
end

