-- ==== Sys2Proof/Machine/State.lean ====
section
/-! DEFINITION. Every piece of state the spec gives the IB6240, block by block, as plain data, and the machine after reset. -/

namespace Sys2Proof.Machine

open Sys2Proof

/-! ### Dock Table (R1, R135) -/

/-- Dock states (R1), in the order of their codes (R188). -/
inductive DockState where
  | disabled | absent | vacant | bound | silent | faulted
  deriving DecidableEq, Repr

/-- The state a SILENT record returns to when it holds no fault cause (R1, R7). -/
inductive PriorState where
  | vacant | bound
  deriving DecidableEq, Repr

/-- Whose value a pass applies to the dock (R1). -/
inductive Steering where
  | allocator | manual
  deriving DecidableEq, Repr

/-- Why a dock is or will be FAULTED (R1, R13). -/
inductive FaultCause where
  | dock (code : Nat)
  | notFollowing
  | powerMismatch
  | duplicateVehicle (vehicle : Nat)
  deriving DecidableEq, Repr

/-- A dock record: the fields of R1 in the table's order, then the Tally Unit's fields of R135. -/
structure DockRecord where
  state : DockState
  vehicle : Option Nat
  prior : PriorState
  silentSince : Option Nat
  stored : Nat
  capacity : Nat
  ratedExport : Nat
  ratedIntake : Nat
  measured : Int
  setpoint : Int
  share : Nat
  floor : Nat
  steering : Steering
  manual : Option Int
  group : Fin 4
  cause : Option FaultCause
  cleanCount : Nat
  phaseAcked : Bool
  phaseMismatch : Nat
  powerMismatch : Nat
  missedAck : Nat
  lastReport : Nat
  exportBase : Nat
  intakeBase : Nat
  dayThroughput : Nat
  restartCount : Nat
  jumpCount : Nat
  deriving DecidableEq, Repr

/-! ### Route Plan Table (R29, R45) -/

inductive PlanState where
  | waiting | due | departed
  deriving DecidableEq, Repr

inductive HoldLevel where
  | none | hold | lockout
  deriving DecidableEq, Repr

inductive HoldSource where
  | manual | auto
  deriving DecidableEq, Repr

/-- A plan entry (R29). -/
structure Plan where
  vehicle : Nat
  departure : Nat
  energy : Nat
  state : PlanState
  hold : HoldLevel
  source : Option HoldSource
  pendingHold : Bool
  afterEvent : Bool
  shortHoldOff : Bool
  deriving DecidableEq, Repr

/-- The Route Plan Table: the entries in ascending id order (R29) and the floor parameters (R45). -/
structure Rpt where
  plans : List Plan
  margin : Nat
  keep : Nat
  planningIntake : Nat
  planningEfficiency : Nat
  readyLead : Nat
  shortBand : Nat
  deriving DecidableEq, Repr

/-! ### Event Queue (R51) -/

inductive EventState where
  | pending | active
  deriving DecidableEq, Repr

/-- An event record (R51); `stop` is its end. -/
structure EventRecord where
  id : Nat
  start : Nat
  stop : Nat
  target : Nat
  committedInitial : Nat
  committed : Nat
  state : EventState
  actualStart : Option Nat
  deriving DecidableEq, Repr

/-! ### Allocator (R77) -/

/-- What the ALC holds between passes (R77); its timer expires at `previousPass` + 2 (R78). -/
structure Alc where
  previousNet : Int
  previousIntake : Nat
  previousPass : Nat
  lastShortfall : Nat
  lastYield : Bool
  deriving DecidableEq, Repr

/-! ### Rotation Unit (R104, R106) -/

/-- An entry of a rotation list: a group, or `none` for NONE (R104). -/
abbrev RestEntry := Option (Fin 4)

/-- OFF, WORK, REST(g) as `rest (some g)`, REST(none) as `rest none` (R104). -/
inductive RotState where
  | off
  | work
  | rest (entry : RestEntry)
  deriving DecidableEq, Repr

/-- A ROTATION SET waiting to be taken up (R104). -/
structure RotSetting where
  list : List RestEntry
  yieldOn : Bool
  deriving DecidableEq, Repr

structure Rot where
  list : List RestEntry
  yieldOn : Bool
  pendingSetting : Option RotSetting
  cursor : Nat
  state : RotState
  aTimer : Option Nat
  bTimer : Option Nat
  yieldCount : Nat
  intervalA : Nat
  intervalB : Nat
  deriving DecidableEq, Repr

/-! ### Site Limit Unit (R117) -/

inductive TripState where
  | normal | tripped | holdoff
  deriving DecidableEq, Repr

/-- A headroom override (R117, R120). -/
structure Override where
  value : Nat
  expiry : Nat
  deriving DecidableEq, Repr

structure Slu where
  table : Vector Nat 48
  tableValid : Bool
  daily : Bool
  limit : Option Override
  intakeCeiling : Nat
  rampRate : Nat
  holdoff : Nat
  lineAsserted : Bool
  trip : TripState
  holdoffTimer : Option Nat
  tripCount : Nat
  tripSeconds : Nat
  experm : Bool
  deriving DecidableEq, Repr

/-! ### Tally Unit (R140, R142, R150, R152) -/

/-- The interval in progress (R142, R145). -/
structure Interval where
  start : Nat
  committed : Nat
  meterNet : Int
  dockExport : Nat
  dockIntake : Nat
  deriving DecidableEq, Repr

/-- The open event tally (R142). -/
structure Tally where
  eventId : Nat
  meterNet : Int
  dockExport : Nat
  dockIntake : Nat
  participants : List (Nat × Nat)
  intervalsTotal : Nat
  intervalsMet : Nat
  worst : Option Nat
  divergent : Nat
  peakShortfall : Nat
  tripSeconds : Nat
  interval : Interval
  deriving DecidableEq, Repr

/-- Causes of an event's end (R67, R75). -/
inductive EndCause where
  | complete | cancelled | expired
  deriving DecidableEq, Repr

/-- A result record (R150). -/
structure Result where
  eventId : Nat
  start : Nat
  stop : Nat
  actualStart : Option Nat
  actualEnd : Nat
  cause : EndCause
  committedInitial : Nat
  committedFinal : Nat
  meterNet : Int
  dockExport : Nat
  dockIntake : Nat
  intervalsTotal : Nat
  intervalsMet : Nat
  worst : Nat
  divergent : Nat
  peakShortfall : Nat
  tripSeconds : Nat
  yields : Nat
  read : Bool
  participants : List (Nat × Nat)
  deriving DecidableEq, Repr

structure Tly where
  siteExport : Nat
  siteImport : Nat
  meterWeight : Nat
  tally : Option Tally
  results : List Result
  resultsLost : Nat
  deriving DecidableEq, Repr

/-! ### Depot Clock (R154) -/

inductive ClockChange where
  | none | set | trim
  deriving DecidableEq, Repr

/-- The Depot Clock (R154); `running` is the clock state, RUNNING or UNSET. -/
structure Dck where
  running : Bool
  depotTime : Nat
  depotDivider : Nat
  uptime : Nat
  uptimeDivider : Nat
  lastChange : ClockChange
  lastChangeUptime : Nat
  deriving DecidableEq, Repr

/-! ### Dock Net Controller (R162) -/

inductive NetState where
  | active | passive | off
  deriving DecidableEq, Repr

/-- A SETPOINT frame for a dock with its value and phase (R172). -/
structure Setpoint where
  dock : Dock
  value : Int
  phase : Bool
  deriving DecidableEq, Repr

/-- An ECHO of the echo test: the test dock's address and the sequence (R176). -/
structure EchoFrame where
  dock : Nat
  sequence : Nat
  deriving DecidableEq, Repr

/-- A frame of the coordinator (R172, R173, R176). -/
inductive NetFrame where
  | cease
  | setpoint (f : Setpoint)
  | echo (f : EchoFrame)
  deriving DecidableEq, Repr

/-- The frame in transmission with its withdrawn mark (R162), and whether a SETPOINT for the same dock, or for a CEASE a CEASE, has been
queued since the attempt began (R166, log 14). -/
structure Transmission where
  frame : NetFrame
  withdrawn : Bool
  superseded : Bool
  deriving DecidableEq, Repr

inductive EchoState where
  | idle | running | donePass | doneFail | aborted
  deriving DecidableEq, Repr

/-- The echo test (R162, R175 to R177); `dock` is an address, 0 before the first test; `wait` counts the time-base
periods left of a running echo wait. -/
structure EchoTest where
  state : EchoState
  dock : Nat
  count : Nat
  sequence : Nat
  matched : Nat
  mismatched : Nat
  missed : Nat
  wait : Option Nat
  deriving DecidableEq, Repr

/-- The Dock Net Controller (R162). The transmit queue is held by its three sections (R172). -/
structure Dnc where
  net : NetState
  tec : Nat
  recCount : Nat
  foreign : Nat
  queuedCease : Bool
  queuedSetpoints : List Setpoint
  queuedEcho : Option EchoFrame
  sending : Option Transmission
  recoveryTimer : Option Nat
  phase : Vector Bool 40
  echo : EchoTest
  ackDriven : Bool
  deriving DecidableEq, Repr

/-! ### Link ports (R180) and what they carry -/

inductive LockState where
  | hunt | locked | quiet
  deriving DecidableEq, Repr

/-- A link frame by its KIND and BODY (R179). -/
structure LinkFrame where
  kind : Byte
  body : List Byte
  deriving DecidableEq, Repr

inductive EventNoticeKind where
  | called | started | revised | ended | withdrawn
  deriving DecidableEq, Repr

inductive TripCause where
  | asserted | released | resumed
  deriving DecidableEq, Repr

inductive DockNoticeKind where
  | bound | released | faulted | silent | absent
  deriving DecidableEq, Repr

inductive HoldCause where
  | deferred | afterEvent | shortBand | rollover
  deriving DecidableEq, Repr

inductive NetCause where
  | tecCount | recCount | recovery | restart
  deriving DecidableEq, Repr

/-- The five notices with the contents their rules list (R76, R131, R4, R44, R169). -/
inductive Notice where
  | event (kind : EventNoticeKind) (r : EventRecord) (ended : Option (EndCause × Nat))
  | trip (cause : TripCause) (trip : TripState) (count seconds : Nat) (timer : Option Nat) (uptime depotTime : Nat)
  | dock (dock : Dock) (kind : DockNoticeKind) (state : DockState) (vehicle : Nat) (cause : Option FaultCause)
  | hold (vehicle : Nat) (cause : HoldCause) (level : HoldLevel) (source : Option HoldSource) (pendingHold : Bool)
  | net (before after : NetState) (cause : NetCause) (tec recCount foreign uptime : Nat)
  deriving DecidableEq, Repr

/-- A request in the holding: its frame, and its answer once the request has been taken (R182). -/
structure Held where
  request : LinkFrame
  answer : Option LinkFrame
  deriving DecidableEq, Repr

/-- The frame a transmitter is sending (R184). -/
inductive Outgoing where
  | answer (f : LinkFrame)
  | notice (n : Notice)
  deriving DecidableEq, Repr

/-- A link port (R180). `lastAnswer` is the model's own field: the answer of the request taken last (log 9). -/
structure Port where
  lock : LockState
  badRun : Nat
  quietTimer : Option Nat
  badFrames : Nat
  overruns : Nat
  droppedNotices : Nat
  holding : List Held
  notices : List Notice
  sending : Option Outgoing
  withinFrame : Bool
  lastAnswer : Option LinkFrame
  deriving DecidableEq, Repr

/-! ### The machine -/

/-- The whole state. `pending` is the queue of waiting commands and `draws` counts the free orders drawn so far; both are
the model's own (log 2, log 6). -/
structure State where
  docks : Vector DockRecord 40
  rpt : Rpt
  evq : List EventRecord
  alc : Alc
  rot : Rot
  slu : Slu
  tly : Tly
  dck : Dck
  dnc : Dnc
  grid : Port
  fleet : Port
  pending : List Instr
  draws : Nat
  deriving DecidableEq, Repr

/-- Why a command stops the machine with a fault: no command of this part does, so there is no reason. -/
inductive Fault where
  deriving DecidableEq, Repr

/-- Why a command is refused by the model. -/
inductive Refusal where
  /-- Raised by an arm of `exec` whose command has no meaning yet; no arm raises it now. Safe: it stops the run. -/
  | notModelled (mnemonic : String)
  deriving DecidableEq, Repr

/-! ### Reset -/

/-- A dock record after reset (R2, R135): group (address - 1) mod 4, which is the index mod 4. -/
def DockRecord.reset (d : Dock) : DockRecord :=
  { state := .absent, vehicle := none, prior := .vacant, silentSince := none, stored := 0, capacity := 0,
    ratedExport := 0, ratedIntake := 0, measured := 0, setpoint := 0, share := 0, floor := 0, steering := .allocator,
    manual := none, group := ⟨d.val % 4, Nat.mod_lt _ (by decide)⟩, cause := none, cleanCount := 0, phaseAcked := false,
    phaseMismatch := 0, powerMismatch := 0, missedAck := 0, lastReport := 0, exportBase := 0, intakeBase := 0,
    dayThroughput := 0, restartCount := 0, jumpCount := 0 }

/-- R30, R45. -/
def Rpt.reset : Rpt :=
  { plans := [], margin := 10, keep := 20, planningIntake := 192, planningEfficiency := 92, readyLead := 900, shortBand := 50 }

/-- R77. -/
def Alc.reset : Alc := { previousNet := 0, previousIntake := 0, previousPass := 0, lastShortfall := 0, lastYield := false }

/-- R105. -/
def Rot.reset : Rot :=
  { list := [], yieldOn := false, pendingSetting := none, cursor := 0, state := .off, aTimer := none, bTimer := none,
    yieldCount := 0, intervalA := 900, intervalB := 300 }

/-- R117 and R126: the trip state and the hold-off timer follow the level of TRIPn when the reset ends. -/
def Slu.reset (tripLow : Bool) : Slu :=
  { table := Vector.replicate 48 0, tableValid := false, daily := false, limit := none, intakeCeiling := 2000, rampRate := 500,
    holdoff := 60, lineAsserted := tripLow, trip := if tripLow then .tripped else .holdoff,
    holdoffTimer := if tripLow then none else some 60, tripCount := 0, tripSeconds := 0, experm := false }

/-- R140, R142, R152. -/
def Tly.reset : Tly :=
  { siteExport := 0, siteImport := 0, meterWeight := 100, tally := none, results := [], resultsLost := 0 }

/-- R154. -/
def Dck.reset : Dck :=
  { running := false, depotTime := 0, depotDivider := 0, uptime := 0, uptimeDivider := 0, lastChange := .none,
    lastChangeUptime := 0 }

/-- R162. -/
def EchoTest.reset : EchoTest :=
  { state := .idle, dock := 0, count := 0, sequence := 0, matched := 0, mismatched := 0, missed := 0, wait := none }

/-- R162; `ackDriven` is the model's own (log 18). -/
def Dnc.reset : Dnc :=
  { net := .active, tec := 0, recCount := 0, foreign := 0, queuedCease := false, queuedSetpoints := [], queuedEcho := none,
    sending := none, recoveryTimer := none, phase := Vector.replicate 40 false, echo := EchoTest.reset, ackDriven := false }

/-- R180. -/
def Port.reset : Port :=
  { lock := .hunt, badRun := 0, quietTimer := none, badFrames := 0, overruns := 0, droppedNotices := 0, holding := [],
    notices := [], sending := none, withinFrame := false, lastAnswer := none }

/-- The machine after a device reset that ended with TRIPn at the given level (R2, R126). -/
def State.afterReset (tripLow : Bool) : State :=
  { docks := Vector.ofFn DockRecord.reset, rpt := Rpt.reset, evq := [], alc := Alc.reset, rot := Rot.reset,
    slu := Slu.reset tripLow, tly := Tly.reset, dck := Dck.reset, dnc := Dnc.reset, grid := Port.reset, fleet := Port.reset,
    pending := [], draws := 0 }

/-- The machine right after reset. DESIGN CHOICE: TRIPn was high when the reset ended (log 1). -/
def State.reset : State := State.afterReset false

end Sys2Proof.Machine
end

