-- ==== Sys2Proof/Machine/Ops.lean ====
section
/-! DEFINITION. The operations every block shares: bounded arithmetic, uptime timers, sorting, free orders, access to dock
records and ports, and raising a notice. -/

namespace Sys2Proof.Machine

open Sys2Proof

/-! ### Arithmetic (spec 4.5) -/

/-- A count that saturates at `top` (spec 4.5). -/
def satAdd (top a b : Nat) : Nat := min top (a + b)

/-- A value brought to the nearest end of its range (spec 4.5). -/
def clampNat (lo hi v : Nat) : Nat := max lo (min hi v)

/-- A signed value brought to the nearest end of its range (spec 4.5). -/
def clampInt (lo hi v : Int) : Int := max lo (min hi v)

/-- Division rounded up, for the formulas that say "round up" (spec 4.5, R47). -/
def ceilDiv (a b : Nat) : Nat := (a + (b - 1)) / b

/-- The number of values of a 32-bit count (R155, R140). -/
def wordModulus : Nat := 4294967296

/-- The largest depot time (spec 4.3, R154). -/
def depotTimeMax : Nat := 4000000000

/-- Second of day, day number and half-hour index of a depot time (spec 4.3). -/
def secondOfDay (t : Nat) : Nat := t % 86400
def dayNumber (t : Nat) : Nat := t / 86400
def halfHourIndex (t : Nat) : Nat := secondOfDay t / 1800

/-! ### Uptime timers (R155) -/

/-- The uptime elapsed since `start`, modulo 4,294,967,296 (R155). -/
def elapsedSince (now start : Nat) : Nat := (now + wordModulus - start) % wordModulus

/-- The expiry uptime of a timer started now (R155: the count wraps). -/
def expiryAfter (now interval : Nat) : Nat := (now + interval) % wordModulus

/-- A timer held as an expiry uptime is due once uptime has reached that expiry. DEDUCED: "reached" is read modulo the wrap, as
less than half the count past the expiry (log 15). -/
def timerDue (now : Nat) : Option Nat → Bool
  | none => false
  | some expiry => decide (elapsedSince now expiry < wordModulus / 2)

/-! ### Sorting and free orders -/

/-- Insertion into a list sorted by `le`, before the first element it is not above. -/
def insertBy {α : Type} (le : α → α → Bool) (a : α) : List α → List α
  | [] => [a]
  | b :: l => if le a b then a :: b :: l else b :: insertBy le a l

/-- Insertion sort by `le`; elements that compare equal keep their order. -/
def sortBy {α : Type} (le : α → α → Bool) : List α → List α
  | [] => []
  | a :: l => insertBy le a (sortBy le l)

/-- The items in the free order of the `n`-th draw: by rising key of their positions (log 6). -/
def freeOrder {α : Type} (n : Nat) (l : List α) : List α :=
  (sortBy (fun a b => decide (Config.orderKey n a.2 ≤ Config.orderKey n b.2)) l.zipIdx).map Prod.fst

/-! ### Dock records -/

/-- The record of an address, when it is one of 1..40 (R23). -/
def dockOfAddr (a : Nat) : Option Dock :=
  if h : 1 ≤ a ∧ a ≤ 40 then some ⟨a - 1, by omega⟩ else none

/-- The record of a dock. -/
def State.dock (s : State) (d : Dock) : DockRecord := s.docks[d]

/-- Replace the record of a dock. -/
def State.setDock (s : State) (d : Dock) (r : DockRecord) : State := { s with docks := s.docks.set d r }

/-- Change the record of a dock. -/
def State.modifyDock (s : State) (d : Dock) (f : DockRecord → DockRecord) : State := s.setDock d (f (s.dock d))

/-! ### Ports and notices -/

/-- The port of a link. -/
def State.port (s : State) : Link → Port
  | .grid => s.grid
  | .fleet => s.fleet

/-- Change the port of a link. -/
def State.mapPort (s : State) (l : Link) (f : Port → Port) : State :=
  match l with
  | .grid => { s with grid := f s.grid }
  | .fleet => { s with fleet := f s.fleet }

/-- The transmitter's choice of its next frame when it is idle (R184): the ready answer of the first request; no notice while
a request is being taken; the oldest notice when LOCKED; otherwise it stays idle. -/
def Port.serve (p : Port) : Port :=
  match p.sending with
  | some _ => p
  | none =>
    match p.holding with
    | h :: _ =>
      match h.answer with
      | some f => { p with sending := some (.answer f) }
      | none => p
    | [] =>
      match p.lock, p.notices with
      | .locked, n :: rest => { p with sending := some (.notice n), notices := rest }
      | _, _ => p

/-- A notice raised into a port's queue (R185, R181): discarded in QUIET; appended; a full queue of 8 loses its oldest. The
transmitter is then served (R184). -/
def Port.raise (n : Notice) (p : Port) : Port :=
  match p.lock with
  | .quiet => p
  | _ =>
    if p.notices.length < 8 then
      Port.serve { p with notices := p.notices ++ [n] }
    else
      Port.serve { p with notices := p.notices.tail ++ [n], droppedNotices := satAdd 255 p.droppedNotices 1 }

/-- Raise a notice on one link. -/
def raiseOn (l : Link) (n : Notice) (s : State) : State := s.mapPort l (Port.raise n)

/-- Raise a notice into both queues (R76, R131). -/
def raiseBoth (n : Notice) (s : State) : State := raiseOn .fleet n (raiseOn .grid n s)

end Sys2Proof.Machine
end

