-- ==== Sys2Proof/Machine/DockNet.lean ====
section
/-! DEFINITION. The Dock Net Controller: transmit queue, net state, phase bits and echo test (spec chapter 9). -/

namespace Sys2Proof.Machine

open Sys2Proof

/-- Change the DNC. -/
def State.mapDnc (s : State) (f : Dnc → Dnc) : State := { s with dnc := f s.dnc }

/-- The number of frames in the transmit queue (R162, R172). -/
def Dnc.framesQueued (n : Dnc) : Nat :=
  n.queuedCease.toNat + n.queuedSetpoints.length + n.queuedEcho.isSome.toNat

/-! ### Echo test (R176, R177) -/

/-- Mark an ECHO in transmission withdrawn (R177). -/
def Transmission.withdrawEcho (t : Transmission) : Transmission :=
  match t.frame with
  | .echo _ => { t with withdrawn := true }
  | .cease => t
  | .setpoint _ => t

/-- A RUNNING echo test ends ABORTED (R177); a test that is not RUNNING is unchanged. DESIGN CHOICE (log 39): the sequence keeps the number it
has, also when the ECHO of that number was queued and never sent. -/
def Dnc.abortEcho (n : Dnc) : Dnc :=
  if n.echo.state = .running then
    { n with
      echo := { n.echo with state := .aborted, wait := none }
      queuedEcho := none
      sending := n.sending.map Transmission.withdrawEcho }
  else n

/-- Abort the test when it is on the dock whose record enters SILENT or DISABLED (R177). -/
def Dnc.abortEchoOf (d : Dock) (n : Dnc) : Dnc := if n.echo.dock = d.addr then n.abortEcho else n

/-- Byte k of the ECHO payload of sequence n (R176). -/
def echoByte (n k : Nat) : Byte := if k = 0 then BitVec.ofNat 8 n else BitVec.ofNat 8 ((n * 37 + k * 11) % 256)

/-- The ECHO payload of sequence n (R176). -/
def echoPayload (n : Nat) : List Byte := (List.range 8).map (echoByte n)

/-- Going on after sequence n: the end of the test, or the ECHO of the next sequence queued (R176). -/
def Dnc.echoGoOn (n : Dnc) : Dnc :=
  let e := n.echo
  if e.sequence = e.count then
    { n with echo := { e with wait := none, state := if e.mismatched = 0 ∧ e.missed = 0 then .donePass else .doneFail } }
  else
    { n with
      echo := { e with wait := none, sequence := e.sequence + 1 }
      queuedEcho := some { dock := e.dock, sequence := e.sequence + 1 } }

/-- The sequence is counted missed and the test goes on (R176). -/
def Dnc.echoMiss (n : Dnc) : Dnc := Dnc.echoGoOn { n with echo := { n.echo with missed := n.echo.missed + 1 } }

/-- The number of time-base periods of the echo wait (R176). -/
def echoWaitPeriods : Nat := 3277

/-- An acknowledged ECHO starts the wait (R176). -/
def Dnc.echoStartWait (n : Dnc) : Dnc := { n with echo := { n.echo with wait := some echoWaitPeriods } }

/-- An accepted ECHO handed to the test (R176): examined while the wait runs, discarded otherwise. -/
def Dnc.echoReceive (source : Nat) (payload : List Byte) (n : Dnc) : Dnc :=
  match n.echo.wait with
  | none => n
  | some _ =>
    if source = n.echo.dock ∧ payload.head? = some (echoByte n.echo.sequence 0) then
      if payload = echoPayload n.echo.sequence then
        Dnc.echoGoOn { n with echo := { n.echo with matched := n.echo.matched + 1 } }
      else
        Dnc.echoGoOn { n with echo := { n.echo with mismatched := n.echo.mismatched + 1 } }
    else n

/-! ### Transmit queue (R172, R173) -/

/-- A SETPOINT for the dock d is queued while the frame is in transmission (R166). -/
def Transmission.supersedeSetpoint (d : Dock) (t : Transmission) : Transmission :=
  match t.frame with
  | .setpoint f => if f.dock = d then { t with superseded := true } else t
  | .cease => t
  | .echo _ => t

/-- A CEASE is queued while the frame is in transmission (R166). -/
def Transmission.supersedeCease (t : Transmission) : Transmission :=
  match t.frame with
  | .cease => { t with superseded := true }
  | .setpoint _ => t
  | .echo _ => t

/-- A pass's request to queue a SETPOINT (R172). -/
def Dnc.queueSetpoint (f : Setpoint) (n : Dnc) : Dnc :=
  if n.net = .off then n
  else
    { n with
      queuedSetpoints :=
        if n.queuedSetpoints.any (fun g => decide (g.dock = f.dock)) then
          n.queuedSetpoints.map fun g => if g.dock = f.dock then f else g
        else n.queuedSetpoints ++ [f]
      sending := n.sending.map (Transmission.supersedeSetpoint f.dock) }

/-- A queued SETPOINT under a CEASE: above 0 removed, below 0 set to 0, its phase kept (R173 steps 2 and 3). -/
def Setpoint.underCease (f : Setpoint) : Option Setpoint :=
  if 0 < f.value then none else if f.value < 0 then some { f with value := 0 } else some f

/-- A SETPOINT with a value other than 0 in transmission is marked withdrawn (R173 step 4). -/
def Transmission.withdrawSetpoint (t : Transmission) : Transmission :=
  match t.frame with
  | .setpoint f => if f.value ≠ 0 then { t with withdrawn := true } else t
  | .cease => t
  | .echo _ => t

/-- The SLU's request to enqueue a CEASE (R173). -/
def Dnc.enqueueCease (n : Dnc) : Dnc :=
  if n.net = .off then n
  else
    { n with
      queuedCease := true
      queuedSetpoints := n.queuedSetpoints.filterMap Setpoint.underCease
      sending := n.sending.map fun t => t.supersedeCease.withdrawSetpoint }

/-- The head of the transmit queue and the queue without it (R172): CEASE, SETPOINTs, ECHO. An ECHO is not sent in NET-PASSIVE
(R169). -/
def Dnc.takeHead (n : Dnc) : Option (NetFrame × Dnc) :=
  if n.queuedCease then some (.cease, { n with queuedCease := false })
  else
    match n.queuedSetpoints with
    | f :: rest => some (.setpoint f, { n with queuedSetpoints := rest })
    | [] =>
      match n.queuedEcho with
      | some e => if n.net = .active then some (.echo e, { n with queuedEcho := none }) else none
      | none => none

/-- The line is idle: an attempt starts with the head frame, outside NET-OFF (R164). With a frame in transmission, an empty queue
or in NET-OFF no attempt starts. -/
def Dnc.startAttempt (n : Dnc) : Dnc :=
  match n.sending with
  | some _ => n
  | none =>
    if n.net = .off then n
    else
      match n.takeHead with
      | some (f, n') => { n' with sending := some { frame := f, withdrawn := false, superseded := false } }
      | none => n

/-- The frame of an attempt that was cut off goes back to its place, or is dropped: withdrawn, in NET-OFF, or with a newer frame queued
since the attempt began, whether that one is still queued or not (R166, log 14). -/
def Dnc.returnFrame (n : Dnc) : Dnc :=
  match n.sending with
  | none => n
  | some t =>
    let m : Dnc := { n with sending := none }
    if t.withdrawn = true ∨ t.superseded = true ∨ n.net = .off then m
    else
      match t.frame with
      | .cease => { m with queuedCease := true }
      | .setpoint f =>
        if m.queuedSetpoints.any (fun g => decide (g.dock = f.dock)) then m
        else { m with queuedSetpoints := f :: m.queuedSetpoints }
      | .echo e => { m with queuedEcho := some e }

/-! ### Error counts and net state (R169, R170) -/

/-- The net state the counts give (R169). -/
def netStateOf (tec recCount : Nat) : NetState :=
  if 255 < tec then .off else if 128 ≤ tec ∨ 128 ≤ recCount then .passive else .active

/-- The NET NOTICE for the state as it stands (R169). -/
def netNotice (before : NetState) (c : NetCause) (s : State) : Notice :=
  .net before s.dnc.net c s.dnc.tec s.dnc.recCount s.dnc.foreign s.dck.uptime

/-- Entry into a net state other than NET-ACTIVE aborts the echo test; entry into NET-OFF also empties the queue and starts the
recovery timer (R169, R170). -/
def Dnc.enterNet (st : NetState) (uptime : Nat) (n : Dnc) : Dnc :=
  match st with
  | .active => { n with net := .active }
  | .passive => { n with net := .passive }.abortEcho
  | .off =>
    { ({ n with net := .off, queuedCease := false, queuedSetpoints := [] } : Dnc).abortEcho with
      queuedEcho := none
      recoveryTimer := some (expiryAfter uptime 2) }

/-- The net state is settled after a change of TEC or REC (R169). NET-OFF is left only by R170 and R171. DEDUCED: the cause of the
notice is the count whose change is being settled (log 22). -/
def settleNet (c : NetCause) (s : State) : State :=
  let st := netStateOf s.dnc.tec s.dnc.recCount
  if s.dnc.net = .off ∨ s.dnc.net = st then s
  else
    let s' := s.mapDnc (Dnc.enterNet st s.dck.uptime)
    raiseOn .fleet (netNotice s.dnc.net c s') s'

/-- TEC and REC are cleared and the net returns to NET-ACTIVE (R170 recovery, R171); a NET NOTICE when the state changed. -/
def restartNet (c : NetCause) (s : State) : State :=
  let s' := s.mapDnc fun n => { n with tec := 0, recCount := 0, net := .active, recoveryTimer := none }
  if s.dnc.net = .active then s' else raiseOn .fleet (netNotice s.dnc.net c s') s'

/-- A frame received whole: REC falls by 1 (R167). -/
def receivedWhole (s : State) : State :=
  settleNet .recCount (s.mapDnc fun n => { n with recCount := n.recCount - 1 })

/-- A frame received whole but not accepted: foreign count, no acknowledge (R167). -/
def receiveForeign (s : State) : State :=
  (receivedWhole s).mapDnc fun n => { n with foreign := satAdd 255 n.foreign 1, ackDriven := false }

/-- A frame received in error (R167). The ack slot was driven when the form error lay in the ack delimiter or the end of a frame that
had passed its check and its acceptance test. -/
def receiveInError (ackDriven : Bool) (s : State) : State :=
  settleNet .recCount (s.mapDnc fun n => { n with recCount := satAdd 255 n.recCount 1, ackDriven := ackDriven })

/-- An accepted frame: acknowledged unless it is a broadcast (R167). -/
def receiveAccepted (broadcast : Bool) (s : State) : State :=
  (receivedWhole s).mapDnc fun n => { n with ackDriven := !broadcast }

/-! ### Phase bits (R174) -/

/-- The phase bit of a dock (R174). -/
def Dnc.phaseOf (n : Dnc) (d : Dock) : Bool := n.phase[d]

/-- The phase bit of a dock is flipped, and the DTB told: phase acknowledged no, both mismatch counts 0 (R174, R15). -/
def flipPhase (d : Dock) (s : State) : State :=
  (s.mapDnc fun n => { n with phase := n.phase.set d (!n.phase[d]) }).modifyDock d fun r =>
    { r with phaseAcked := false, phaseMismatch := 0, powerMismatch := 0 }

end Sys2Proof.Machine
end

