-- ==== Sys2Proof/Machine/Plans.lean ====
section
/-! DEFINITION. The Route Plan Table: plan entries, plan states, holds and the floor arithmetic (spec chapter 2). -/

namespace Sys2Proof.Machine

open Sys2Proof

/-- The entry of a vehicle (R29). -/
def findPlan (plans : List Plan) (v : Nat) : Option Plan := plans.find? fun p => decide (p.vehicle = v)

/-- Change the entry of a vehicle, if there is one. -/
def updatePlan (v : Nat) (f : Plan → Plan) (plans : List Plan) : List Plan :=
  plans.map fun p => if p.vehicle = v then f p else p

/-- Insert an entry at its place in id order (R31). -/
def insertPlan (p : Plan) (plans : List Plan) : List Plan :=
  insertBy (fun a b => decide (a.vehicle ≤ b.vehicle)) p plans

/-- Change the entries of the table. -/
def State.mapPlans (s : State) (f : List Plan → List Plan) : State := { s with rpt.plans := f s.rpt.plans }

/-! ### Plan states (R32, R33) -/

/-- The moment an entry becomes DUE: departure − ready lead, 0 when the lead exceeds the departure (R32). -/
def duePoint (readyLead : Nat) (p : Plan) : Nat := p.departure - readyLead

/-- A WAITING entry whose point depot time has reached becomes DUE (R32). -/
def dueAt (readyLead now : Nat) (p : Plan) : Plan :=
  if p.state = .waiting ∧ duePoint readyLead p ≤ now then { p with state := .due } else p

/-- The DUE check of every entry, made only while the clock is RUNNING (R32). -/
def checkDue (s : State) : State :=
  if s.dck.running then s.mapPlans (List.map (dueAt s.rpt.readyLead s.dck.depotTime)) else s

/-- The DUE check of one vehicle's entry (R31, R32). -/
def checkDueOf (v : Nat) (s : State) : State :=
  if s.dck.running then s.mapPlans (updatePlan v (dueAt s.rpt.readyLead s.dck.depotTime)) else s

/-- The RPT is told that a vehicle has been released: a DUE entry becomes DEPARTED (R33). -/
def planReleased (u : Nat) (s : State) : State :=
  s.mapPlans (updatePlan u fun p => if p.state = .due then { p with state := .departed } else p)

/-! ### Holds (R36 to R44) -/

/-- The hold level a vehicle has: that of its entry, NONE without one (R36). -/
def holdLevelOf (plans : List Plan) (v : Nat) : HoldLevel :=
  match findPlan plans v with
  | some p => p.hold
  | none => .none

/-- The HOLD NOTICE of an entry after a change (R44). -/
def holdNotice (c : HoldCause) (p : Plan) : Notice := .hold p.vehicle c p.hold p.source p.pendingHold

/-- Change the holds of the entries `change` selects, and raise a HOLD NOTICE for each in id order (R44). -/
def changeHolds (change : Plan → Option (Plan × HoldCause)) (s : State) : State :=
  let changed := s.rpt.plans.filterMap change
  let s' := s.mapPlans (List.map fun p => ((change p).map Prod.fst).getD p)
  changed.foldl (fun t q => raiseOn .fleet (holdNotice q.2 q.1) t) s'

/-- HOLD (MANUAL) with the pending hold cleared: a requested hold taking effect (R38, R40). -/
def Plan.holdManual (p : Plan) : Plan := { p with hold := .hold, source := some .manual, pendingHold := false }

/-- HOLD (AUTO) (R41, R42). -/
def Plan.holdAuto (p : Plan) : Plan := { p with hold := .hold, source := some .auto }

/-- A pending hold taking effect at a settlement boundary (R40). -/
def deferredChange (p : Plan) : Option (Plan × HoldCause) :=
  if p.pendingHold then some (p.holdManual, .deferred) else none

/-- What an event end does to an entry: a pending hold takes effect; otherwise a participant with the after-event flag at
level NONE goes to HOLD (AUTO) (R41). -/
def eventEndChange (participants : List Nat) (p : Plan) : Option (Plan × HoldCause) :=
  if p.pendingHold then some (p.holdManual, .deferred)
  else if p.vehicle ∈ participants ∧ p.afterEvent = true ∧ p.hold = .none then some (p.holdAuto, .afterEvent)
  else none

/-- The short-band hand-over of the given vehicles: an entry of one of them at NONE goes to HOLD (AUTO) (R42). -/
def shortBandChange (vehicles : List Nat) (p : Plan) : Option (Plan × HoldCause) :=
  if p.vehicle ∈ vehicles ∧ p.hold = .none then some (p.holdAuto, .shortBand) else none

/-- The rollover returns an AUTO hold to NONE (R43). -/
def rolloverChange (p : Plan) : Option (Plan × HoldCause) :=
  if p.hold = .hold ∧ p.source = some .auto then some ({ p with hold := .none, source := none }, .rollover) else none

/-- The holds due at the end of an event with the given participants (R41). -/
def applyEventEndHolds (participants : List Nat) (s : State) : State := changeHolds (eventEndChange participants) s

/-- The vehicles a pass hands over on the short band, all in the one event of the pass: the notices follow the entries' id order,
not the order of the hand-over (R42, R44). -/
def applyShortBand (vehicles : List Nat) (s : State) : State := changeHolds (shortBandChange vehicles) s

/-! ### Floor arithmetic (R46 to R50) -/

/-- keep floor = round up (capacity × keep / 100) (R47). -/
def keepFloor (rpt : Rpt) (capacity : Nat) : Nat := ceilDiv (capacity * rpt.keep) 100

/-- target = round up (route energy × (100 + margin) / 100), at most the capacity (R47). -/
def targetEnergy (rpt : Rpt) (p : Plan) (capacity : Nat) : Nat := min (ceilDiv (p.energy * (100 + rpt.margin)) 100) capacity

/-- T of R48, in seconds: departure − charge-from − ready lead, 0 when negative and when the entry is DUE. -/
def rechargeTime (rpt : Rpt) (p : Plan) (chargeFrom : Nat) : Nat :=
  if p.state = .due then 0 else ((p.departure : Int) - chargeFrom - rpt.readyLead).toNat

/-- The recharge credited before departure (R48). -/
def rechargeEnergy (rpt : Rpt) (p : Plan) (ratedIntake chargeFrom : Nat) : Nat :=
  min ratedIntake rpt.planningIntake * rechargeTime rpt p chargeFrom * rpt.planningEfficiency / 360000

/-- The reserve floor of a vehicle with a live plan (R49). -/
def plannedFloor (rpt : Rpt) (p : Plan) (capacity ratedIntake chargeFrom : Nat) : Nat :=
  min (max (keepFloor rpt capacity) (targetEnergy rpt p capacity - rechargeEnergy rpt p ratedIntake chargeFrom)) capacity

/-- The entry that enters the floor arithmetic: WAITING or DUE, with the clock RUNNING; `none` in the three cases of R46 in
which floor and charge goal equal the capacity (R46, R34). -/
def livePlan (s : State) (v : Nat) : Option Plan :=
  if s.dck.running then (findPlan s.rpt.plans v).filter fun p => decide (p.state ≠ .departed) else none

/-- The reserve floor of the vehicle `v` at a dock record (R46, R49). -/
def reserveFloor (s : State) (r : DockRecord) (v chargeFrom : Nat) : Nat :=
  match livePlan s v with
  | some p => plannedFloor s.rpt p r.capacity r.ratedIntake chargeFrom
  | none => r.capacity

/-- The charge goal of the vehicle `v` at a dock record (R50). -/
def chargeGoal (s : State) (r : DockRecord) (v : Nat) : Nat :=
  match livePlan s v with
  | some p => targetEnergy s.rpt p r.capacity
  | none => r.capacity

end Sys2Proof.Machine
end

