-- ==== Sys2Proof/Machine/Flags.lean ====
section
/-! DEFINITION. The derived values and flags of the Site Limit Unit and the Depot Clock: H_now, EXPERM, the ACTIVE record. -/

namespace Sys2Proof.Machine

open Sys2Proof

/-- The ACTIVE record: the first record of the queue when its state is ACTIVE (R52, R81). -/
def activeRecord (q : List EventRecord) : Option EventRecord :=
  match q with
  | r :: _ => if r.state = .active then some r else none
  | [] => none

/-- The queue holds an ACTIVE record, wherever it stands (R56, R114, R133, R157, R175). -/
def holdsActive (q : List EventRecord) : Bool := q.any fun r => decide (r.state = .active)

/-- An entry of the headroom table, 0 outside its 48 indexes (R117). -/
def Slu.entry (u : Slu) (i : Nat) : Nat := u.table[i]?.getD 0

/-- H_now, the headroom in force (R122). -/
def hNow (s : State) : Nat :=
  if s.dck.running = false then 0
  else if s.slu.tableValid = false then 0
  else
    match s.slu.limit with
    | some o => o.value
    | none => s.slu.entry (halfHourIndex s.dck.depotTime)

/-- The condition of EXPERM: trip state NORMAL, clock RUNNING, table valid (R132). -/
def expermCondition (s : State) : Bool := decide (s.slu.trip = .normal) && s.dck.running && s.slu.tableValid

/-- The SLU sets the EXPERM output within an event that changes one of its three conditions (R132). -/
def settleExperm (s : State) : State := { s with slu.experm := expermCondition s }

/-- The TRIP NOTICE for the state as it stands (R131); depot time is 0 while the clock is UNSET (R154). -/
def tripNotice (c : TripCause) (s : State) : Notice :=
  .trip c s.slu.trip s.slu.tripCount s.slu.tripSeconds s.slu.holdoffTimer s.dck.uptime
    (if s.dck.running then s.dck.depotTime else 0)

end Sys2Proof.Machine
end

