-- ==== Sys2Proof/Machine/Tally.lean ====
section
/-! DEFINITION. The Tally Unit: dock counters, the revenue meter, the event tally, settlement intervals and the Results List
(spec chapter 7). -/

namespace Sys2Proof.Machine

open Sys2Proof

/-! ### Sums of the tally -/

/-- An energy sum of the tally (R142). DESIGN CHOICE: beyond 32 bits the spec states no result; a free value in range (log 11). -/
def tallySum (a b : Nat) : Nat :=
  if a + b < wordModulus then a + b else Config.energyBeyondRange (a + b) % wordModulus

/-- A meter net (R141). DESIGN CHOICE: beyond the signed 32-bit range the spec states no result; a free value in range (log 11). -/
def meterSum (a b : Int) : Int :=
  if -2147483648 ≤ a + b ∧ a + b ≤ 2147483647 then a + b
  else Config.meterNetBeyondRange (a + b) % 4294967296 - 2147483648

/-- Change the open tally, if one is open. -/
def State.mapTally (s : State) (f : Tally → Tally) : State := { s with tly.tally := s.tly.tally.map f }

/-! ### Dock energy counters (R136 to R138) -/

/-- The raw delta of one counter and whether it went backward (R136). -/
def rawDelta (baseline reported : Nat) : Nat × Bool :=
  if baseline ≤ reported then (reported - baseline, false) else (reported, true)

/-- The plausibility limit (R137). -/
def deltaLimit (rated elapsed : Nat) : Nat := rated * elapsed / 36 + 10

/-- The delta after the plausibility test and whether it was clipped (R137). -/
def clipDelta (rated elapsed raw : Nat) : Nat × Bool :=
  if raw ≤ deltaLimit rated elapsed then (raw, false) else (deltaLimit rated elapsed, true)

/-- Credit a delta above 0 to a vehicle in the participants list (R143). -/
def creditParticipant (v wh : Nat) (l : List (Nat × Nat)) : List (Nat × Nat) :=
  if l.any (fun e => decide (e.1 = v)) then l.map fun e => if e.1 = v then (e.1, satAdd (wordModulus - 1) e.2 wh) else e
  else if l.length < 64 then l ++ [(v, wh)] else l

/-- Credit the deltas of one STATUS to the open tally, its interval and the bound vehicle (R138). -/
def Tally.credit (vehicle : Option Nat) (exported taken : Nat) (t : Tally) : Tally :=
  { t with
    dockExport := tallySum t.dockExport exported
    dockIntake := tallySum t.dockIntake taken
    interval := { t.interval with
      dockExport := tallySum t.interval.dockExport exported
      dockIntake := tallySum t.interval.dockIntake taken }
    participants :=
      match vehicle with
      | some v => if 0 < exported then creditParticipant v exported t.participants else t.participants
      | none => t.participants }

/-- The TLY takes the counters of a STATUS (R136 to R138). The record already holds the ratings of this STATUS and still the
vehicle bound when it arrived; `wasAbsent` and `elapsed` are the two facts the DTB hands over (R5). -/
def takeCounters (d : Dock) (wasAbsent : Bool) (elapsed exported taken : Nat) (s : State) : State :=
  let r := s.dock d
  if wasAbsent then
    s.setDock d { r with exportBase := exported, intakeBase := taken }
  else
    let rawE := rawDelta r.exportBase exported
    let rawI := rawDelta r.intakeBase taken
    let e := clipDelta r.ratedExport elapsed rawE.1
    let i := clipDelta r.ratedIntake elapsed rawI.1
    let s' := s.setDock d { r with
      exportBase := exported
      intakeBase := taken
      restartCount := satAdd 65535 r.restartCount (rawE.2.toNat + rawI.2.toNat)
      jumpCount := satAdd 65535 r.jumpCount (e.2.toNat + i.2.toNat)
      dayThroughput := satAdd (wordModulus - 1) r.dayThroughput e.1 }
    s'.mapTally (Tally.credit r.vehicle e.1 i.1)

/-! ### The revenue meter (R140, R141) -/

/-- An edge's weight, signed, in the meter net of the open tally and of its interval (R141). -/
def Tally.meterEdge (w : Int) (t : Tally) : Tally :=
  { t with meterNet := meterSum t.meterNet w, interval := { t.interval with meterNet := meterSum t.interval.meterNet w } }

/-- A rising edge on MXP (R140, R141). -/
def meterExportEdge (s : State) : State :=
  { s with tly.siteExport := (s.tly.siteExport + s.tly.meterWeight) % wordModulus }.mapTally
    (Tally.meterEdge s.tly.meterWeight)

/-- A rising edge on MIP (R140, R141). -/
def meterImportEdge (s : State) : State :=
  { s with tly.siteImport := (s.tly.siteImport + s.tly.meterWeight) % wordModulus }.mapTally
    (Tally.meterEdge (-(s.tly.meterWeight : Int)))

/-! ### Settlement intervals (R145 to R147) -/

/-- A new interval in progress (R142, R148). -/
def Interval.opened (start committed : Nat) : Interval :=
  { start := start, committed := committed, meterNet := 0, dockExport := 0, dockIntake := 0 }

/-- An interval's dock net: its dock export less its dock intake (R146, R147). -/
def Interval.dockNet (i : Interval) : Int := (i.dockExport : Int) - i.dockIntake

/-- The energy the interval delivered: the meter net when the meter is in use, else the dock net (R146, R141). -/
def Interval.delivered (i : Interval) (weight : Nat) : Int := if 0 < weight then i.meterNet else i.dockNet

/-- The interval's target in Wh (R146). -/
def Interval.target (i : Interval) (length : Nat) : Nat := i.committed * length / 36

/-- Whether the interval is met (R146). -/
def Interval.met (i : Interval) (weight length : Nat) : Bool :=
  decide ((i.target length : Int) * 95 ≤ i.delivered weight * 100)

/-- The interval's percentage (R146); Int division by a positive number rounds toward minus infinity. -/
def Interval.percentage (i : Interval) (weight length : Nat) : Nat :=
  if i.target length = 0 then (if 0 ≤ i.delivered weight then 100 else 0)
  else (clampInt 0 100 (i.delivered weight * 100 / (i.target length : Int))).toNat

/-- Whether the interval is divergent (R147). -/
def Interval.divergent (i : Interval) (weight : Nat) : Bool :=
  decide (0 < weight) &&
    decide (15 * (max (max i.meterNet.natAbs i.dockNet.natAbs) 1000) < (i.meterNet - i.dockNet).natAbs * 100)

/-- Judge the interval in progress as closed with the given length; a length of 0 is not judged (R146, R147). -/
def Tally.judge (weight length : Nat) (t : Tally) : Tally :=
  if length = 0 then t
  else
    let pct := t.interval.percentage weight length
    { t with
      intervalsTotal := t.intervalsTotal + 1
      intervalsMet := t.intervalsMet + (t.interval.met weight length).toNat
      worst := some (match t.worst with | some w => min w pct | none => pct)
      divergent := t.divergent + (t.interval.divergent weight).toNat }

/-- The boundary of the interval in progress: start + 300 when that is before the event's end (R145). -/
def Tally.boundary (t : Tally) (stop : Nat) : Option Nat :=
  if t.interval.start + 300 < stop then some (t.interval.start + 300) else none

/-- Close the interval at its boundary and open the next (R148 steps 1 and 2). -/
def Tally.passBoundary (weight committed : Nat) (t : Tally) : Tally :=
  { t.judge weight 300 with interval := Interval.opened (t.interval.start + 300) committed }

/-- The boundary of the interval in progress is one that depot time has reached (R145, R148). -/
def Tally.boundaryReached (t : Tally) (stop now : Nat) : Bool :=
  match t.boundary stop with
  | some b => decide (b ≤ now)
  | none => false

/-! ### Opening and closing the tally (R142, R149) -/

/-- The tally opened at an event start (R142). -/
def Tally.opened (r : EventRecord) (actualStart : Nat) : Tally :=
  { eventId := r.id, meterNet := 0, dockExport := 0, dockIntake := 0, participants := [], intervalsTotal := 0,
    intervalsMet := 0, worst := none, divergent := 0, peakShortfall := 0, tripSeconds := 0,
    interval := Interval.opened actualStart r.committed }

/-- The two steps that close the intervals at the event's close: a boundary already reached, then the last interval, of length
actual end − start, 0 when negative (R149 steps 1 and 2, R145). -/
def Tally.closeIntervals (weight committed stop now actualEnd : Nat) (t : Tally) : Tally :=
  let t' := if t.boundaryReached stop now then t.passBoundary weight committed else t
  t'.judge weight (actualEnd - t'.interval.start)

/-- The result written from a closed tally and its record (R150). -/
def resultOf (r : EventRecord) (cause : EndCause) (actualEnd yields : Nat) (t : Tally) : Result :=
  { eventId := r.id, start := r.start, stop := r.stop, actualStart := r.actualStart, actualEnd := actualEnd, cause := cause,
    committedInitial := r.committedInitial, committedFinal := r.committed, meterNet := t.meterNet, dockExport := t.dockExport,
    dockIntake := t.dockIntake, intervalsTotal := t.intervalsTotal, intervalsMet := t.intervalsMet, worst := t.worst.getD 0,
    divergent := t.divergent, peakShortfall := t.peakShortfall, tripSeconds := t.tripSeconds, yields := yields, read := false,
    participants := t.participants }

/-- The result of a record that expired while PENDING (R151, R75). -/
def expiredResult (r : EventRecord) : Result :=
  { eventId := r.id, start := r.start, stop := r.stop, actualStart := none, actualEnd := r.stop, cause := .expired,
    committedInitial := r.committedInitial, committedFinal := r.committed, meterNet := 0, dockExport := 0, dockIntake := 0,
    intervalsTotal := 0, intervalsMet := 0, worst := 0, divergent := 0, peakShortfall := 0, tripSeconds := 0, yields := 0,
    read := false, participants := [] }

/-- Add a result to the Results List; a full list first loses its oldest, counted lost when it was unread (R152). -/
def Tly.addResult (x : Result) (t : Tly) : Tly :=
  if t.results.length < 6 then { t with results := t.results ++ [x] }
  else
    { t with
      results := t.results.tail ++ [x]
      resultsLost :=
        match t.results.head? with
        | some old => if old.read then t.resultsLost else satAdd 255 t.resultsLost 1
        | none => t.resultsLost }

/-- Close the open tally of the record `r` into a result (R149); answers the participants' vehicle ids. -/
def closeTally (r : EventRecord) (cause : EndCause) (actualEnd : Nat) (s : State) : State × List Nat :=
  match s.tly.tally with
  | some t =>
    let t' := t.closeIntervals s.tly.meterWeight r.committed r.stop s.dck.depotTime actualEnd
    ({ s with tly := { s.tly.addResult (resultOf r cause actualEnd s.rot.yieldCount t') with tally := none } },
      t'.participants.map Prod.fst)
  | none => (s, [])

/-- A shortfall handed over by a pass (R144). -/
def handShortfall (x : Nat) (s : State) : State := s.mapTally fun t => { t with peakShortfall := max t.peakShortfall x }

/-- A trip second reported by the SLU (R144). -/
def handTripSecond (s : State) : State := s.mapTally fun t => { t with tripSeconds := satAdd 65535 t.tripSeconds 1 }

end Sys2Proof.Machine
end

