-- ==== Sys2Proof/Machine/DockTable.lean ====
section
/-! DEFINITION. The Dock Table: states, binding, release, faults, silence and the processing of a STATUS (spec chapter 1). -/

namespace Sys2Proof.Machine

open Sys2Proof

/-! ### Entry into states and notices (R4) -/

/-- A record entering a state: on a change of state the clean-report and mismatch counts are cleared (R4). -/
def DockRecord.enter (st : DockState) (r : DockRecord) : DockRecord :=
  if r.state = st then r else { r with state := st, cleanCount := 0, phaseMismatch := 0, powerMismatch := 0 }

/-- Raise a DOCK NOTICE with the state and fault cause the record has at this point (R4). -/
def dockNotice (d : Dock) (k : DockNoticeKind) (vehicle : Nat) (s : State) : State :=
  raiseOn .fleet (.dock d k (s.dock d).state vehicle (s.dock d).cause) s

/-- The vehicle a record holds, 0 when none (R4). -/
def DockRecord.vehicleId (r : DockRecord) : Nat := r.vehicle.getD 0

/-- Entry into FAULTED with a cause (R13). -/
def enterFaulted (c : FaultCause) (d : Dock) (s : State) : State :=
  let s' := s.modifyDock d fun r => { r with cause := some c }.enter .faulted
  dockNotice d .faulted (s'.dock d).vehicleId s'

/-- Entry into SILENT (R21), which also ends an echo test on that dock (R177). -/
def enterSilent (d : Dock) (s : State) : State :=
  let s' := s.modifyDock d fun r =>
    { r with
      prior := if r.vehicle.isSome then .bound else .vacant
      silentSince := some s.dck.uptime
      missedAck := 0 }.enter .silent
  (dockNotice d .silent (s'.dock d).vehicleId s').mapDnc (Dnc.abortEchoOf d)

/-- What step 3 of R5 has done to the record so far in this event: bound a vehicle, released one. -/
structure Binding where
  bound : Bool
  released : Bool
  deriving DecidableEq, Repr

/-- A record leaving FAULTED with its cause removed: to BOUND when a vehicle is bound, otherwise to VACANT (R18). The notice of
R4 is raised unless the vehicle was bound, or released, in the same event. DESIGN CHOICE (log 42): phase acknowledged stays as it is (R18), so
that after a DOCK CLEAR with it still yes the follow-up checks count from the next STATUS (R16, R17), though R25 has them counted from the next
acknowledged phase change. -/
def leaveFaulted (b : Binding) (d : Dock) (s : State) : State :=
  match (s.dock d).vehicle with
  | some v =>
    let s' := s.modifyDock d fun r => { r with cause := none }.enter .bound
    if b.bound then s' else dockNotice d .bound v s'
  | none =>
    let s' := s.modifyDock d fun r => { r with cause := none }.enter .vacant
    if b.released then s' else dockNotice d .released 0 s'

/-! ### Binding, release and moves (R10 to R12) -/

/-- Steering returns to ALLOCATOR and the manual value is removed (R10, R11). -/
def DockRecord.toAllocator (r : DockRecord) : DockRecord := { r with steering := .allocator, manual := none }

/-- The record takes a vehicle: a record FAULTED for a cause other than DUPLICATE-VEHICLE stays FAULTED with its cause; any other
record loses a DUPLICATE-VEHICLE cause and is BOUND (R8, R9, R12). -/
def DockRecord.take (x : Nat) (r : DockRecord) : DockRecord :=
  match r.state, r.cause with
  | .faulted, some (.dock _) => { r with vehicle := some x }
  | .faulted, some .notFollowing => { r with vehicle := some x }
  | .faulted, some .powerMismatch => { r with vehicle := some x }
  | _, _ => { r with vehicle := some x, cause := none }.enter .bound

/-- A vehicle is bound to a record and the notice "bound" raised (R10). -/
def bindVehicle (d : Dock) (x : Nat) (s : State) : State := dockNotice d .bound x (s.modifyDock d (DockRecord.take x))

/-- The first record waiting, FAULTED with DUPLICATE-VEHICLE(u) (R12). -/
def waitingDock (u : Nat) (s : State) : Option Dock :=
  Dock.all.find? fun d => decide ((s.dock d).state = .faulted ∧ (s.dock d).cause = some (.duplicateVehicle u))

/-- After a release of u, the lowest waiting record takes u (R12). -/
def examineWaiting (u : Nat) (s : State) : State :=
  match waitingDock u s with
  | some d => bindVehicle d u s
  | none => s

/-- The release of vehicle u from record d, with the notice kind its cause gives (R11). -/
def releaseVehicle (d : Dock) (u : Nat) (k : DockNoticeKind) (s : State) : State :=
  let s1 := s.modifyDock d fun r => { r with vehicle := none }.toAllocator
  examineWaiting u (planReleased u (dockNotice d k u s1))

/-- Another record that holds vehicle x (R10). -/
def holderOf (d : Dock) (x : Nat) (s : State) : Option Dock :=
  Dock.all.find? fun e => decide (e ≠ d ∧ (s.dock e).vehicle = some x)

/-- The vehicle leaves its SILENT holder in a move (R10 steps 1 to 4). -/
def moveOut (e : Dock) (x : Nat) (s : State) : State :=
  dockNotice e .released x (s.modifyDock e fun r => { r with vehicle := none, prior := .vacant }.toAllocator)

/-- The bind attempt for x at d (R10); `none` when it fails. -/
def bindAttempt (d : Dock) (x : Nat) (s : State) : Option State :=
  match holderOf d x s with
  | none => some (bindVehicle d x s)
  | some e => if (s.dock e).state = .silent then some (bindVehicle d x (moveOut e x s)) else none

/-! ### The STATUS frame (R168) and its clamps (R6) -/

/-- The number carried by bytes, least significant first (spec 4.6). -/
def ofBytes : List Byte → Nat
  | [] => 0
  | b :: l => b.toNat + 256 * ofBytes l

/-- A two-byte signed field (R188, R168). -/
def toSigned16 (v : Nat) : Int := if v < 32768 then v else (v : Int) - 65536

/-- A STATUS as its payload carries it (R168). -/
structure StatusReport where
  vehicle : Nat
  stored : Nat
  capacity : Nat
  measured : Int
  ratedExport : Nat
  ratedIntake : Nat
  exported : Nat
  taken : Nat
  phase : Nat
  fault : Nat
  deriving DecidableEq, Repr

/-- The fields of a STATUS payload of 22 bytes (R168). -/
def statusOfPayload (p : List Byte) : Option StatusReport :=
  if p.length = 22 then
    let field (offset n : Nat) : Nat := ofBytes ((p.drop offset).take n)
    some { vehicle := field 0 2, stored := field 2 2, capacity := field 4 2, measured := toSigned16 (field 6 2),
           ratedExport := field 8 2, ratedIntake := field 10 2, exported := field 12 4, taken := field 16 4,
           phase := field 20 1, fault := field 21 1 }
  else none

/-- The clamps of R6 on the reported values. -/
def StatusReport.clamp (r : StatusReport) : StatusReport :=
  let capacity := min r.capacity 4000
  { r with
    vehicle := if r.vehicle = 65535 then 0 else r.vehicle
    capacity := capacity
    stored := min r.stored capacity
    ratedExport := min r.ratedExport 600
    ratedIntake := min r.ratedIntake 600
    measured := clampInt (-600) 600 r.measured
    phase := if r.phase = 0 then 0 else 1
    fault := min r.fault 15 }

/-- The reported values written into the record; a manual value is clamped again to the new ratings (R5 step 1, R6). -/
def DockRecord.report (q : StatusReport) (r : DockRecord) : DockRecord :=
  { r with
    stored := q.stored
    capacity := q.capacity
    ratedExport := q.ratedExport
    ratedIntake := q.ratedIntake
    measured := q.measured
    manual := if r.steering = .manual then r.manual.map (clampInt (-(q.ratedIntake : Int)) q.ratedExport) else r.manual }

/-! ### The steps of a STATUS (R5) -/

/-- Step 1: clamp and record, hand the counters to the TLY, restart the report timeout (R5). -/
def statusRecord (d : Dock) (q : StatusReport) (s : State) : State :=
  let elapsed := max 1 (elapsedSince s.dck.uptime (s.dock d).lastReport)
  let wasAbsent := decide ((s.dock d).state = .absent)
  let s1 := takeCounters d wasAbsent elapsed q.exported q.taken (s.modifyDock d (DockRecord.report q))
  s1.modifyDock d fun r => { r with lastReport := s.dck.uptime }

/-- Step 2: the return from SILENT (R7), with the notices of R4. -/
def statusReturn (d : Dock) (s : State) : State :=
  let r := s.dock d
  if r.state = .silent then
    let s1 := s.modifyDock d fun r => { r with silentSince := none }
    match r.cause, r.prior with
    | some _, _ => dockNotice d .faulted r.vehicleId (s1.modifyDock d (DockRecord.enter .faulted))
    | none, .bound => dockNotice d .bound r.vehicleId (s1.modifyDock d (DockRecord.enter .bound))
    | none, .vacant => dockNotice d .released 0 (s1.modifyDock d (DockRecord.enter .vacant))
  else s

/-- A bind attempt for x at a record that is not FAULTED; on failure the record enters FAULTED (R8). -/
def bindOrFault (d : Dock) (x : Nat) (b : Binding) (s : State) : State × Binding :=
  match bindAttempt d x s with
  | some s' => (s', { b with bound := true })
  | none => (enterFaulted (.duplicateVehicle x) d s, b)

/-- A bind attempt for x at a FAULTED record with another cause: nothing on failure (R9). -/
def bindOrKeep (d : Dock) (x : Nat) (b : Binding) (s : State) : State × Binding :=
  match bindAttempt d x s with
  | some s' => (s', { b with bound := true })
  | none => (s, b)

/-- Step 3 for a record in ABSENT, VACANT or BOUND (R8). -/
def statusVehicleTrusted (d : Dock) (x : Nat) (s : State) : State × Binding :=
  let r := s.dock d
  match r.state, r.vehicle with
  | .bound, some u =>
    if x = u then (s, ⟨false, false⟩)
    else
      let s1 := releaseVehicle d u .released s
      if x = 0 then (s1.modifyDock d (DockRecord.enter .vacant), ⟨false, true⟩)
      else bindOrFault d x ⟨false, true⟩ s1
  | .absent, _ =>
    if x = 0 then (dockNotice d .released 0 (s.modifyDock d (DockRecord.enter .vacant)), ⟨false, false⟩)
    else bindOrFault d x ⟨false, false⟩ s
  | _, _ => if x = 0 then (s, ⟨false, false⟩) else bindOrFault d x ⟨false, false⟩ s

/-- Step 3 for a record in FAULTED (R9). -/
def statusVehicleFaulted (d : Dock) (x : Nat) (s : State) : State × Binding :=
  let r := s.dock d
  match r.cause, r.vehicle with
  | some (.duplicateVehicle _), _ =>
    if x = 0 then (leaveFaulted ⟨false, false⟩ d s, ⟨false, false⟩)
    else
      match bindAttempt d x s with
      | some s' => (s', ⟨true, false⟩)
      | none => (s.modifyDock d fun r => { r with cause := some (.duplicateVehicle x) }, ⟨false, false⟩)
  | _, some u =>
    if x = u then (s, ⟨false, false⟩)
    else
      let s1 := releaseVehicle d u .released s
      if x = 0 then (s1, ⟨false, true⟩) else bindOrKeep d x ⟨false, true⟩ s1
  | _, none => if x = 0 then (s, ⟨false, false⟩) else bindOrKeep d x ⟨false, false⟩ s

/-- Step 3: the reported vehicle id is resolved against the binding (R8, R9). -/
def statusVehicle (d : Dock) (x : Nat) (s : State) : State × Binding :=
  if (s.dock d).state = .faulted then statusVehicleFaulted d x s else statusVehicleTrusted d x s

/-- Step 4: the reported fault code is applied (R14). -/
def statusFault (d : Dock) (code : Nat) (b : Binding) (s : State) : State :=
  let r := s.dock d
  if r.state = .faulted then
    match r.cause with
    | some (.dock _) =>
      if code ≠ 0 then s.modifyDock d fun r => { r with cause := some (.dock code), cleanCount := 0 }
      else
        let s1 := s.modifyDock d fun r => { r with cleanCount := r.cleanCount + 1 }
        if 3 ≤ r.cleanCount + 1 then leaveFaulted b d s1 else s1
    | _ => s
  else if code ≠ 0 then enterFaulted (.dock code) d s
  else s

/-- The phase-echo check of step 5 (R16). -/
def checkPhaseEcho (d : Dock) (applied : Bool) (s : State) : State :=
  let r := s.dock d
  if r.phaseAcked then
    if applied ≠ s.dnc.phaseOf d then
      let s1 := s.modifyDock d fun r => { r with phaseMismatch := r.phaseMismatch + 1 }
      if 4 ≤ r.phaseMismatch + 1 then enterFaulted .notFollowing d s1 else s1
    else s.modifyDock d fun r => { r with phaseMismatch := 0 }
  else s

/-- The tolerance of the power-mismatch check (R17). -/
def powerTolerance (setpoint : Int) : Nat := max 50 (setpoint.natAbs / 5)

/-- The power-mismatch check of step 5, made when the record is still BOUND (R17). -/
def checkPower (d : Dock) (applied : Bool) (measured : Int) (s : State) : State :=
  let r := s.dock d
  if r.state = .bound ∧ r.phaseAcked = true ∧ applied = s.dnc.phaseOf d then
    if powerTolerance r.setpoint < (measured - r.setpoint).natAbs then
      let s1 := s.modifyDock d fun r => { r with powerMismatch := r.powerMismatch + 1 }
      if 5 ≤ r.powerMismatch + 1 then enterFaulted .powerMismatch d s1 else s1
    else s.modifyDock d fun r => { r with powerMismatch := 0 }
  else s

/-- Step 5: both checks, when the record is BOUND and step 3 neither released nor bound a vehicle (R5). -/
def statusChecks (d : Dock) (q : StatusReport) (b : Binding) (s : State) : State :=
  if (s.dock d).state = .bound ∧ b.bound = false ∧ b.released = false then
    checkPower d (decide (q.phase = 1)) q.measured (checkPhaseEcho d (decide (q.phase = 1)) s)
  else s

/-- The DTB takes a STATUS (R5): dropped in DISABLED, otherwise the five steps in order. -/
def takeStatus (d : Dock) (report : StatusReport) (s : State) : State :=
  if (s.dock d).state = .disabled then s
  else
    let q := report.clamp
    let s2 := statusReturn d (statusRecord d q s)
    let v := statusVehicle d q.vehicle s2
    statusChecks d q v.2 (statusFault d q.fault v.2 v.1)

/-! ### Timers and acknowledges (R19 to R22) -/

/-- The report timeout of a record is due (R19). -/
def reportTimeoutDue (s : State) (d : Dock) : Bool :=
  let r := s.dock d
  (match r.state with
    | .vacant => true
    | .bound => true
    | .faulted => true
    | .disabled => false
    | .absent => false
    | .silent => false) && decide (3 ≤ elapsedSince s.dck.uptime r.lastReport)

/-- The report timeout expires when it is due: the record enters SILENT (R19). -/
def reportTimeout (d : Dock) (s : State) : State := if reportTimeoutDue s d then enterSilent d s else s

/-- The silent grace of a record is due (R22). -/
def silentGraceDue (s : State) (d : Dock) : Bool :=
  let r := s.dock d
  match r.state, r.silentSince with
  | .silent, some since => decide (60 ≤ elapsedSince s.dck.uptime since)
  | _, _ => false

/-- The reported values are cleared, the prior state is VACANT, cause, silent since and manual value removed (R22, R24). -/
def DockRecord.clearOut (r : DockRecord) : DockRecord :=
  { r with cause := none, silentSince := none, manual := none, steering := .allocator, stored := 0, capacity := 0,
           ratedExport := 0, ratedIntake := 0, measured := 0, prior := .vacant }

/-- The silent grace expires when it is due: the record enters ABSENT (R22). -/
def silentGrace (d : Dock) (s : State) : State :=
  if silentGraceDue s d then
    let s1 := s.modifyDock d (DockRecord.enter .absent)
    let s2 :=
      match (s.dock d).vehicle with
      | some u => releaseVehicle d u .absent s1
      | none => dockNotice d .absent 0 s1
    s2.modifyDock d DockRecord.clearOut
  else s

/-- The end of a SETPOINT to a dock, acknowledged or missed, with the phase it carried (R15, R20). -/
def setpointEnded (d : Dock) (phase acked : Bool) (s : State) : State :=
  let r := s.dock d
  let counted := decide (r.state = .bound) || decide (r.state = .faulted)
  if acked then
    s.modifyDock d fun r =>
      { r with
        phaseAcked := if phase = s.dnc.phaseOf d then true else r.phaseAcked
        missedAck := if counted then 0 else r.missedAck }
  else if counted then
    let s1 := s.modifyDock d fun r => { r with missedAck := r.missedAck + 1 }
    if 3 ≤ r.missedAck + 1 then enterSilent d s1 else s1
  else s

/-! ### Fleet requests on docks (R23 to R28) -/

/-- DOCK DISABLE on a record not yet DISABLED (R24), which also ends an echo test on that dock (R177). -/
def disableDock (d : Dock) (s : State) : State :=
  let s1 := s.modifyDock d (DockRecord.enter .disabled)
  let s2 :=
    match (s.dock d).vehicle with
    | some u => releaseVehicle d u .released s1
    | none => s1
  (s2.modifyDock d fun r => { r.clearOut with missedAck := 0 }).mapDnc (Dnc.abortEchoOf d)

end Sys2Proof.Machine
end

