-- ==== Sys2Proof/Machine/Rotation.lean ====
section
/-! DEFINITION. The Rotation Unit (spec chapter 5), but for the passes it asks for, which its commands run. -/

namespace Sys2Proof.Machine

open Sys2Proof

/-- The group the ROT reports as resting (R107). -/
def Rot.restingGroup (r : Rot) : Option (Fin 4) :=
  match r.state with
  | .rest e => e
  | .work => none
  | .off => none

/-- Replace list and YIELD by a present pending setting and remove it (R110, R112). -/
def Rot.takeUp (r : Rot) : Rot :=
  match r.pendingSetting with
  | some p => { r with list := p.list, yieldOn := p.yieldOn, pendingSetting := none }
  | none => r

/-- The start of an event (R108). -/
def Rot.start (uptime : Nat) (r : Rot) : Rot :=
  if r.list = [] then { r with yieldCount := 0 }
  else { r with yieldCount := 0, cursor := 0, state := .work, aTimer := some (expiryAfter uptime r.intervalA), bTimer := none }

/-- The end of an event (R112). -/
def Rot.finish (r : Rot) : Rot :=
  { r with state := .off, aTimer := none, bTimer := none }.takeUp |> fun r => { r with cursor := 0 }

/-- Take the rest at the cursor (R109 steps 1 to 3). -/
def Rot.takeRest (uptime : Nat) (r : Rot) : Rot :=
  { r with
    state := .rest (r.list.getD r.cursor none)
    aTimer := none
    bTimer := some (expiryAfter uptime r.intervalB)
    cursor := (r.cursor + 1) % r.list.length }

/-- The expiry of the A timer (R109, R110). -/
def Rot.expireA (uptime : Nat) (r : Rot) : Rot :=
  match r.pendingSetting with
  | none => r.takeRest uptime
  | some _ =>
    let r' : Rot := { r.takeUp with cursor := 0 }
    if r'.list = [] then { r' with state := .off, aTimer := none, bTimer := none } else r'.takeRest uptime

/-- The expiry of the B timer (R111). -/
def Rot.expireB (uptime : Nat) (r : Rot) : Rot :=
  { r with state := .work, bTimer := none, aTimer := some (expiryAfter uptime r.intervalA) }

/-- The A timer expires in WORK when it is due (R109). -/
def Rot.aDue (uptime : Nat) (r : Rot) : Bool := decide (r.state = .work) && timerDue uptime r.aTimer

/-- The B timer expires in REST when it is due (R111). -/
def Rot.bDue (uptime : Nat) (r : Rot) : Bool :=
  match r.state with
  | .rest _ => timerDue uptime r.bTimer
  | .work => false
  | .off => false

/-- One yield reported by the ALC (R115). -/
def Rot.countYield (r : Rot) : Rot := { r with yieldCount := satAdd 65535 r.yieldCount 1 }

end Sys2Proof.Machine
end

