-- ==== Sys2Proof/Machine/WaterFill.lean ====
section
/-! DEFINITION. The water-fill of an allocation pass (spec section 4.7). -/

namespace Sys2Proof.Machine

open Sys2Proof

/-- A dock taking part in the fill with its cap and its day throughput in tenths kWh (R96, R97). -/
structure FillDock where
  dock : Dock
  cap : Nat
  throughput : Nat
  deriving DecidableEq, Repr

/-- The sum of the caps, Σc (R95, R96). -/
def capSum (l : List FillDock) : Nat := (l.map FillDock.cap).sum

/-- Cap ascending, equal caps in address order (R96 step 2). -/
def FillDock.capLe (a b : FillDock) : Bool :=
  decide (a.cap < b.cap) || (decide (a.cap = b.cap) && decide (a.dock.val ≤ b.dock.val))

/-- Day throughput ascending, equal values in address order (R97). -/
def FillDock.throughputLe (a b : FillDock) : Bool :=
  decide (a.throughput < b.throughput) || (decide (a.throughput = b.throughput) && decide (a.dock.val ≤ b.dock.val))

/-- The unserved docks each receive `fair`, and the first `leftover` of them in the order of R97 one more (R96 step 3, R97). -/
def shareOut (fair leftover : Nat) (unserved : List FillDock) : List (Dock × Nat) :=
  (sortBy FillDock.throughputLe unserved).zipIdx.map fun e => (e.1.dock, if e.2 < leftover then fair + 1 else fair)

/-- Step 3 of R96 over the docks in sorted order with R left to spread. -/
def fillSorted : List FillDock → Nat → List (Dock × Nat)
  | [], _ => []
  | e :: rest, amount =>
    let fair := amount / (rest.length + 1)
    if e.cap ≤ fair then (e.dock, e.cap) :: fillSorted rest (amount - e.cap)
    else shareOut fair (amount - fair * (rest.length + 1)) (e :: rest)

/-- The water-fill of the amount G over the docks taking part (R96). -/
def waterFill (l : List FillDock) (amount : Nat) : List (Dock × Nat) :=
  if capSum l ≤ amount then l.map fun e => (e.dock, e.cap) else fillSorted (sortBy FillDock.capLe l) amount

/-- The fill total (R96, R98). -/
def fillTotal (shares : List (Dock × Nat)) : Nat := (shares.map Prod.snd).sum

end Sys2Proof.Machine
end

