-- ==== Sys2Proof/Machine/Allocation.lean ====
section
/-! DEFINITION. The allocation pass (spec chapter 4): what a pass computes from the state, and how its outcome is written. -/

namespace Sys2Proof.Machine

open Sys2Proof

/-! ### The values fixed at the start of a pass (R81) -/

/-- The charge-from moment of a pass: the end of the ACTIVE record, or now (R46, R81). -/
def passChargeFrom (s : State) : Nat :=
  match activeRecord s.evq with
  | some r => r.stop
  | none => s.dck.depotTime

/-- The uptime elapsed since the previous pass (R81). -/
def passElapsed (s : State) : Nat := elapsedSince s.dck.uptime s.alc.previousPass

/-- The rise the ramp allows in this pass (R90, R94). -/
def passRamp (s : State) : Nat := s.slu.rampRate * passElapsed s

/-- The floor a pass writes into a record: the reserve floor of the vehicle of a BOUND, FAULTED or SILENT record, else 0 (R82). -/
def passFloor (s : State) (d : Dock) : Nat :=
  let r := s.dock d
  match r.state, r.vehicle with
  | .bound, some v => reserveFloor s r v (passChargeFrom s)
  | .faulted, some v => reserveFloor s r v (passChargeFrom s)
  | .silent, some v => reserveFloor s r v (passChargeFrom s)
  | _, _ => 0

/-! ### Classification (R85 to R89) -/

/-- The place of a dock in a pass (spec 4.4). -/
inductive Place where
  | zero
  | manual (value : Int)
  | intake
  | eligible (cap : Nat)
  | resting (cap : Nat)
  deriving DecidableEq, Repr

/-- D_rem: seconds to the end of the ACTIVE record, at least 60 (R88). -/
def remainingSeconds (r : EventRecord) (now : Nat) : Nat := max 60 ((r.stop : Int) - now).toNat

/-- The cap of a dock in an ACTIVE event (R88), from the floor of the pass. -/
def exportCap (ratedExport exportable remaining : Nat) : Nat := min ratedExport (exportable * 3600 / remaining)

/-- Tests 2 to 5 of R87 for a dock whose stored energy is not below its floor. -/
def placeExport (s : State) (ev : EventRecord) (d : Dock) (v : Nat) : Place :=
  let r := s.dock d
  match findPlan s.rpt.plans v with
  | none => .zero
  | some p =>
    if p.state = .departed ∨ p.hold = .hold then .zero
    else
      let cap := exportCap r.ratedExport (r.stored - passFloor s d) (remainingSeconds ev s.dck.depotTime)
      if cap = 0 then .zero
      else if s.rot.restingGroup = some r.group then .resting cap
      else .eligible cap

/-- The place of a BOUND dock with vehicle v (R85 to R87, R89). -/
def placeBound (s : State) (d : Dock) (v : Nat) : Place :=
  let r := s.dock d
  let level := holdLevelOf s.rpt.plans v
  if level = .lockout then .zero
  else
    match r.steering with
    | .manual => if level = .hold ∧ 0 < r.manual.getD 0 then .zero else .manual (r.manual.getD 0)
    | .allocator =>
      match activeRecord s.evq with
      | some ev => if r.stored < passFloor s d then .intake else placeExport s ev d v
      | none => if r.stored < chargeGoal s r v then .intake else .zero

/-- The place of a dock (R85 to R89). -/
def place (s : State) (d : Dock) : Place :=
  match (s.dock d).state, (s.dock d).vehicle with
  | .bound, some v => placeBound s d v
  | _, _ => .zero

/-! ### Stages 3 to 5: intake ceiling, manual docks, intake (R90 to R93) -/

/-- I_pass (R90). -/
def intakeCeiling (s : State) : Nat := min s.slu.intakeCeiling (s.alc.previousIntake + passRamp s)

/-- The grants of stages 4 and 5: what is left of I_pass and of H_now, and the setpoints given so far. -/
structure Grants where
  intakeLeft : Nat
  exportLeft : Nat
  given : List (Dock × Int)
  deriving DecidableEq, Repr

/-- Stage 4 for one manual dock (R91). -/
def grantManual (g : Grants) (m : Dock × Int) : Grants :=
  if m.2 < 0 then
    let x := min m.2.natAbs g.intakeLeft
    { g with intakeLeft := g.intakeLeft - x, given := g.given ++ [(m.1, -(x : Int))] }
  else
    let x := min m.2.toNat g.exportLeft
    { g with exportLeft := g.exportLeft - x, given := g.given ++ [(m.1, (x : Int))] }

/-- Stage 5 for one intake candidate (R92). -/
def grantIntake (s : State) (g : Grants) (d : Dock) : Grants :=
  let x := min (s.dock d).ratedIntake g.intakeLeft
  { g with intakeLeft := g.intakeLeft - x, given := g.given ++ [(d, -(x : Int))] }

/-- The manual docks with their values, in address order (R91). -/
def manualDocks (s : State) : List (Dock × Int) :=
  Dock.all.filterMap fun d =>
    match place s d with
    | .manual v => some (d, v)
    | _ => none

/-- The departure that orders an intake candidate; none for a vehicle without a live plan and while the clock is UNSET (R92). -/
def candidateDeparture (s : State) (d : Dock) : Option Nat :=
  ((s.dock d).vehicle.bind (livePlan s)).map Plan.departure

/-- The order of the intake candidates: departure, with none last, then stored energy, then address (R92). -/
def candidateLe (s : State) (a b : Dock) : Bool :=
  let tail := decide ((s.dock a).stored < (s.dock b).stored) ||
    (decide ((s.dock a).stored = (s.dock b).stored) && decide (a.val ≤ b.val))
  match candidateDeparture s a, candidateDeparture s b with
  | some x, some y => decide (x < y) || (decide (x = y) && tail)
  | some _, none => true
  | none, some _ => false
  | none, none => tail

/-- The intake candidates in the order of R92. -/
def intakeDocks (s : State) : List Dock :=
  sortBy (candidateLe s) (Dock.all.filter fun d => decide (place s d = .intake))

/-- The grants after stage 4 (R91). -/
def manualGrants (s : State) : Grants :=
  (manualDocks s).foldl grantManual { intakeLeft := intakeCeiling s, exportLeft := hNow s, given := [] }

/-- The grants after stage 5 (R92). -/
def passGrants (s : State) : Grants := (intakeDocks s).foldl (grantIntake s) (manualGrants s)

/-- U, the total intake magnitude of the pass (R92). -/
def passIntake (s : State) : Nat := intakeCeiling s - (passGrants s).intakeLeft

/-- M_e, the manual export of the pass (R91). -/
def manualExport (s : State) : Nat := hNow s - (passGrants s).exportLeft

/-! ### Stage 6: export target, yield and fill (R94 to R97) -/

/-- N_eff (R94). -/
def netTarget (s : State) (ev : EventRecord) : Nat :=
  min ev.committed (min (hNow s) (s.alc.previousNet.toNat + passRamp s))

/-- G, the gross export to spread (R94). -/
def grossExport (s : State) (ev : EventRecord) : Nat :=
  ((netTarget s ev : Int) - manualExport s + passIntake s).toNat

/-- A dock as it enters the fill; the day throughput is read in tenths kWh (R97, R139). -/
def fillDock (s : State) (d : Dock) (cap : Nat) : FillDock :=
  { dock := d, cap := cap, throughput := (s.dock d).dayThroughput / 100 }

/-- The export-eligible docks with their caps (R87). -/
def eligibleDocks (s : State) : List FillDock :=
  Dock.all.filterMap fun d =>
    match place s d with
    | .eligible c => some (fillDock s d c)
    | _ => none

/-- The export-eligible and the resting docks together, in address order (R95). -/
def workAndRestDocks (s : State) : List FillDock :=
  Dock.all.filterMap fun d =>
    match place s d with
    | .eligible c => some (fillDock s d c)
    | .resting c => some (fillDock s d c)
    | _ => none

/-- Whether the pass yields the rest: a group rests, YIELD is on and Σc_work is below G (R95). -/
def passYields (s : State) (ev : EventRecord) : Bool :=
  s.rot.restingGroup.isSome && s.rot.yieldOn && decide (capSum (eligibleDocks s) < grossExport s ev)

/-- The docks that take part in the fill (R95). -/
def fillingDocks (s : State) (ev : EventRecord) : List FillDock :=
  if passYields s ev then workAndRestDocks s else eligibleDocks s

/-- The export shares of the pass; none without an ACTIVE record (R94 to R97). -/
def passShares (s : State) : List (Dock × Nat) :=
  match activeRecord s.evq with
  | some ev => waterFill (fillingDocks s ev) (grossExport s ev)
  | none => []

/-! ### Stage 7: the outcome of a pass (R98 to R102, R83) -/

/-- What a pass decides. `setpoints` and `shares` give a dock 0 where they do not list it. -/
structure PassOutcome where
  setpoints : List (Dock × Int)
  shares : List (Dock × Nat)
  net : Int
  intake : Nat
  shortfall : Nat
  yielded : Bool
  handOver : List Nat
  deriving DecidableEq, Repr

/-- The value a list gives a dock. -/
def givenTo {α : Type} (zero : α) (l : List (Dock × α)) (d : Dock) : α :=
  match l.find? fun e => decide (e.1 = d) with
  | some e => e.2
  | none => zero

/-- The share a pass gives a dock. -/
def PassOutcome.shareOf (o : PassOutcome) (d : Dock) : Nat := givenTo 0 o.shares d

/-- The setpoint a pass gives a dock: its grant, or its export share (R101). -/
def PassOutcome.setpointOf (o : PassOutcome) (d : Dock) : Int := givenTo 0 o.setpoints d + (o.shareOf d : Int)

/-- The vehicles handed over on the short band: a share above 0, stored at or below floor + short band, short-hold off clear
(R100). -/
def shortBandVehicles (s : State) (shares : List (Dock × Nat)) : List Nat :=
  Dock.all.filterMap fun d =>
    let r := s.dock d
    match r.vehicle with
    | some v =>
      if 0 < givenTo 0 shares d ∧ r.stored ≤ passFloor s d + s.rpt.shortBand ∧
          (findPlan s.rpt.plans v).any (fun p => !p.shortHoldOff) = true then some v
      else none
    | none => none

/-- The outcome of a trip pass (R83). -/
def tripOutcome (s : State) : PassOutcome :=
  { setpoints := [], shares := [], net := 0, intake := 0,
    shortfall := match activeRecord s.evq with | some ev => ev.committed | none => 0
    yielded := false, handOver := [] }

/-- The outcome of a pass in NORMAL (R84 to R102). DEDUCED: the shortfall follows the formula of R99 (log 12). -/
def normalOutcome (s : State) : PassOutcome :=
  let shares := passShares s
  let net : Int := (fillTotal shares : Int) + manualExport s - passIntake s
  { setpoints := (passGrants s).given, shares := shares, net := net, intake := passIntake s,
    shortfall := match activeRecord s.evq with | some ev => ((ev.committed : Int) - net).toNat | none => 0
    yielded := match activeRecord s.evq with | some ev => passYields s ev | none => false
    handOver := shortBandVehicles s shares }

/-- The outcome of a pass taken in this state (R80, R83). -/
def passOutcome (s : State) : PassOutcome := if s.slu.trip = .normal then normalOutcome s else tripOutcome s

/-! ### Writing the outcome -/

/-- Write setpoint, share and floor into one record; a changed setpoint flips the dock's phase bit (R101, R174, R82). -/
def writeDock (sp : Int) (share floor : Nat) (d : Dock) (s : State) : State :=
  let s' := if sp ≠ (s.dock d).setpoint then flipPhase d s else s
  s'.modifyDock d fun r => { r with setpoint := sp, share := share, floor := floor }

/-- Write the outcome into all forty records (R101). The floors are those of the state the pass was taken in. -/
def writeDocks (origin : State) (o : PassOutcome) (s : State) : State :=
  Dock.all.foldl (fun t d => writeDock (o.setpointOf d) (o.shareOf d) (passFloor origin d) d t) s

/-- Whether the pass queues a SETPOINT for the record: BOUND, or FAULTED with a vehicle (R102). -/
def DockRecord.getsSetpoint (r : DockRecord) : Bool :=
  match r.state with
  | .bound => true
  | .faulted => r.vehicle.isSome
  | .disabled => false
  | .absent => false
  | .vacant => false
  | .silent => false

/-- Queue one SETPOINT for the record, with the setpoint and phase bit as written (R102). -/
def queueFor (d : Dock) (s : State) : State :=
  if (s.dock d).getsSetpoint then
    s.mapDnc (Dnc.queueSetpoint { dock := d, value := (s.dock d).setpoint, phase := s.dnc.phaseOf d })
  else s

/-- Queue the SETPOINTs of a pass in address order (R102). -/
def queueSetpoints (s : State) : State := Dock.all.foldl (fun t d => queueFor d t) s

/-- What the ALC holds after a pass (R77, R98, R99, R83). -/
def PassOutcome.alc (o : PassOutcome) (uptime : Nat) : Alc :=
  { previousNet := o.net, previousIntake := o.intake, previousPass := uptime, lastShortfall := o.shortfall, lastYield := o.yielded }

/-- One allocation pass, taken whole (R79 to R102): its yield is reported, its totals kept, its shortfall handed to the TLY when an
event is ACTIVE, its short-band vehicles handed to the RPT, its values written and its frames queued. -/
def runPass (s : State) : State :=
  let o := passOutcome s
  let s1 := { s with
    alc := o.alc s.dck.uptime
    rot := if o.yielded then s.rot.countYield else s.rot }
  let s2 := if (activeRecord s.evq).isSome then handShortfall o.shortfall s1 else s1
  queueSetpoints (writeDocks s o (applyShortBand o.handOver s2))

end Sys2Proof.Machine
end

