-- ==== Sys2Proof/Machine/Events.lean ====
section
/-! DEFINITION. The Event Queue (spec chapter 3): offers, start, end, expiry and the notices of the queue. -/

namespace Sys2Proof.Machine

open Sys2Proof

/-- Change the event queue. -/
def State.mapEvq (s : State) (f : List EventRecord → List EventRecord) : State := { s with evq := f s.evq }

/-- The EVENT NOTICE of a record (R76). -/
def eventNotice (k : EventNoticeKind) (r : EventRecord) : Notice := .event k r none

/-- The EVENT NOTICE of kind ENDED (R76). -/
def endedNotice (r : EventRecord) (cause : EndCause) (actualEnd : Nat) : Notice := .event .ended r (some (cause, actualEnd))

/-! ### The offer (R61 to R63) -/

/-- The plan entry that makes a vehicle an offer candidate: WAITING or DUE, level NONE, no pending hold (R61). -/
def offerPlan (s : State) (v : Nat) : Option Plan :=
  (findPlan s.rpt.plans v).filter fun p => decide (p.state ≠ .departed ∧ p.hold = .none ∧ p.pendingHold = false)

/-- The vehicle of a dock that is an offer candidate (R61). -/
def offerCandidate (s : State) (d : Dock) : Option Nat :=
  let r := s.dock d
  if r.state = .bound ∧ r.steering = .allocator then r.vehicle.filter fun v => (offerPlan s v).isSome else none

/-- The beginnings of the pieces of a window [start, stop): its start and the half-hour boundaries inside it (R62). -/
def pieceBeginnings (start stop : Nat) : List Nat :=
  start :: (List.range ((stop - 1) / 1800 - start / 1800)).map fun i => (start / 1800 + 1 + i) * 1800

/-- The headroom of the piece that begins at t (R62). -/
def pieceHeadroom (s : State) (t : Nat) : Nat :=
  if s.slu.tableValid = false then 0
  else
    let tableValue :=
      if s.slu.daily = false ∧ dayNumber s.dck.depotTime < dayNumber t then 0 else s.slu.entry (halfHourIndex t)
    match s.slu.limit with
    | some o => if t < o.expiry then o.value else tableValue
    | none => tableValue

/-- The headroom term: the lowest of the pieces (R62). -/
def headroomTerm (s : State) (start stop : Nat) : Nat :=
  (pieceBeginnings start stop).foldl (fun m t => min m (pieceHeadroom s t)) (pieceHeadroom s start)

/-- A candidate's contribution to the energy term (R63), with charge-from = the window's end. -/
def contribution (s : State) (start stop : Nat) (d : Dock) (v : Nat) : Nat :=
  let r := s.dock d
  min r.ratedExport ((r.stored - reserveFloor s r v stop) * 3600 / (stop - start))

/-- The offer candidates' contributions in address order (R61, R63). -/
def contributions (s : State) (start stop : Nat) : List Nat :=
  Dock.all.filterMap fun d => (offerCandidate s d).map (contribution s start stop d)

/-- The energy term (R63). -/
def energyTerm (s : State) (start stop : Nat) : Nat := (contributions s start stop).sum

/-- The offer without the call target: the smaller of the two terms (R63, R64). -/
def windowOffer (s : State) (start stop : Nat) : Nat := min (headroomTerm s start stop) (energyTerm s start stop)

/-! ### Start (R65, R66) -/

/-- The record as it starts now (R66). -/
def EventRecord.started (now : Nat) (r : EventRecord) : EventRecord := { r with state := .active, actualStart := some now }

/-- The start procedure for the first record of the queue (R66): tally, rotation, echo test, pass, notice. -/
def startFirst (s : State) : State :=
  match s.evq with
  | r :: rest =>
    let r' := r.started s.dck.depotTime
    let s1 := { s with
      evq := r' :: rest
      tly.tally := some (Tally.opened r' s.dck.depotTime)
      rot := s.rot.start s.dck.uptime
      dnc := s.dnc.abortEcho }
    raiseBoth (eventNotice .started r') (runPass s1)
  | [] => s

/-- The first record is PENDING and depot time has reached its start (R65). -/
def startReached (s : State) : Bool :=
  match s.evq with
  | r :: _ => decide (r.state = .pending) && decide (r.start ≤ s.dck.depotTime)
  | [] => false

/-- The start is taken when it is reached (R65). -/
def startIfReached (s : State) : State := if startReached s then startFirst s else s

/-! ### End (R67, R68) and expiry (R75) -/

/-- The end procedure for an ACTIVE record of the queue (R68): it leaves the queue; result, holds, rotation, pass, notice. -/
def endActive (r : EventRecord) (cause : EndCause) (actualEnd : Nat) (s : State) : State :=
  let closed := closeTally r cause actualEnd (s.mapEvq fun q => q.erase r)
  let s2 := applyEventEndHolds closed.2 closed.1
  let s3 := { s2 with rot := s2.rot.finish }
  raiseBoth (endedNotice r cause actualEnd) (runPass s3)

/-- The ACTIVE record whose end depot time has reached (R67). -/
def endReached (s : State) : Option EventRecord :=
  (activeRecord s.evq).filter fun r => decide (r.stop ≤ s.dck.depotTime)

/-- The end COMPLETE is taken when it is reached, with the record's end as actual end (R67). -/
def endIfReached (s : State) : State :=
  match endReached s with
  | some r => endActive r .complete r.stop s
  | none => s

/-- One PENDING record expires: its result and its notice (R75). -/
def expireRecord (r : EventRecord) (s : State) : State :=
  raiseBoth (endedNotice r .expired r.stop) { s with tly := s.tly.addResult (expiredResult r) }

/-- The PENDING records whose end a forward TIME SET has reached expire in start order (R73, R75). -/
def expirePassed (s : State) : State :=
  let passed := fun (r : EventRecord) => decide (r.state = .pending) && decide (r.stop ≤ s.dck.depotTime)
  (s.evq.filter passed).foldl (fun t r => expireRecord r t) (s.mapEvq (List.filter fun r => !passed r))

/-! ### A cancel or a revise at the depot moment of an end or a start (R69, R72) -/

/-- The event id that a frame names when it is a DISPATCH REVISE or a DISPATCH CANCEL (R69, R70, R183, R189). -/
def LinkFrame.eventNamed (f : LinkFrame) : Option Nat :=
  match f.body with
  | low :: high :: rest =>
    if (f.kind = 0x16 ∧ rest.length = 6) ∨ (f.kind = 0x17 ∧ rest = []) then some (low.toNat + 256 * high.toNat) else none
  | _ => none

/-- The event id that the command waiting next names, when it brings a cancel or a revise to the Event Queue: as its request row, as a good
frame that is taken at once, or as the second request of the holding, taken when the frame being sent has gone out (R182, R184). -/
def nextEventNamed (s : State) : Option Nat :=
  match s.pending.head? with
  | some (.dispatchCancel id) => some id
  | some (.dispatchRevise id _ _) => some id
  | some (.goodFrame .grid kind body) =>
    if s.grid.holding = [] then ({ kind := kind, body := body } : LinkFrame).eventNamed else none
  | some (.linkFrameSent .grid) =>
    match s.grid.sending, s.grid.holding with
    | some (.answer _), _ :: h :: _ => if h.answer = none then h.request.eventNamed else none
    | _, _ => none
  | _ => none

/-- The event id whose cancel or revise, waiting next, is taken before the end or the start of the record it names (R69, R72). DESIGN CHOICE:
the one taken first is a free value (log 35). -/
def eventGoingFirst (s : State) : Option Nat := (nextEventNamed s).filter fun _ => Config.requestFirst s.draws

/-- The first record of the queue is the one named. -/
def headNamed (first : Option Nat) (s : State) : Bool := s.evq.head?.any fun r => decide (first = some r.id)

/-- The end and then the start that depot time has reached (R65, R67), but for those of the record `first`, whose cancel or revise is taken
before them (R69, R72). The end left keeps the start behind it, which comes after it. -/
def takeReached (first : Option Nat) (s : State) : State :=
  if headNamed first s then s
  else
    let s1 := endIfReached s
    if headNamed first s1 then s1 else startIfReached s1

/-- One draw has been used (log 6). -/
def State.drawn (s : State) : State := { s with draws := s.draws + 1 }

/-- What a cancel or a revise leaves behind it: an end or a start that it was taken before (log 35) is taken now, or once more after the next
such request that names its record. With none reached it changes nothing. -/
def takeAfterRequest (s : State) : State :=
  if (endReached s).isSome || startReached s then takeReached (eventGoingFirst s) s.drawn else s

/-! ### The settlement boundary (R148) -/

/-- The boundary of the interval in progress has been reached (R145, R148). -/
def boundaryReached (s : State) : Bool :=
  match s.tly.tally, activeRecord s.evq with
  | some t, some r => t.boundaryReached r.stop s.dck.depotTime
  | _, _ => false

/-- The settlement boundary: the interval is judged, the next opened, the pending holds take effect, and a pass runs when at least
one did (R148, R40). -/
def passSettlement (s : State) : State :=
  match activeRecord s.evq with
  | some r =>
    let s1 := s.mapTally (Tally.passBoundary s.tly.meterWeight r.committed)
    let s2 := changeHolds deferredChange s1
    if s.rpt.plans.any Plan.pendingHold then runPass s2 else s2
  | none => s

/-- The boundary is taken when it is reached (R148). -/
def settlementIfReached (s : State) : State := if boundaryReached s then passSettlement s else s

/-- Two windows overlap (R52). -/
def windowsOverlap (s1 e1 s2 e2 : Nat) : Bool := decide (s1 < e2) && decide (s2 < e1)

/-- Insert a record at its place in start order (R59). -/
def insertEvent (r : EventRecord) (q : List EventRecord) : List EventRecord :=
  insertBy (fun a b => decide (a.start ≤ b.start)) r q

/-- An event id is held by a record of the queue or by a result (R53). -/
def eventIdHeld (s : State) (id : Nat) : Bool :=
  s.evq.any (fun r => decide (r.id = id)) || s.tly.results.any (fun x => decide (x.eventId = id))

end Sys2Proof.Machine
end

