-- ==== Sys2Proof/Machine/Clock.lean ====
section
/-! DEFINITION. The trip line of the Site Limit Unit, the Depot Clock, the day rollover, the delivery of depot-time moments and of
uptime seconds (spec chapters 6 and 8). -/

namespace Sys2Proof.Machine

open Sys2Proof

/-! ### Trip line (R127, R129, R130) -/

/-- An assertion of the filtered line in NORMAL or HOLDOFF (R127); in TRIPPED it cannot occur and nothing is taken. -/
def assertTrip (s : State) : State :=
  if s.slu.trip = .tripped then s
  else
    let s1 := settleExperm { s with
      slu.trip := .tripped
      slu.lineAsserted := true
      slu.holdoffTimer := none }
    let s2 := runPass (s1.mapDnc Dnc.enqueueCease)
    let s3 := { s2 with slu.tripCount := satAdd 65535 s2.slu.tripCount 1 }
    raiseBoth (tripNotice .asserted s3) s3

/-- A release of the filtered line in TRIPPED (R129); in another state it cannot occur and nothing is taken. -/
def releaseTrip (s : State) : State :=
  if s.slu.trip = .tripped then
    let s1 := { s with
      slu.trip := .holdoff
      slu.lineAsserted := false
      slu.holdoffTimer := some (expiryAfter s.dck.uptime s.slu.holdoff) }
    raiseBoth (tripNotice .released s1) s1
  else s

/-- The hold-off timer is due in HOLDOFF (R130). -/
def holdoffDue (s : State) : Bool := decide (s.slu.trip = .holdoff) && timerDue s.dck.uptime s.slu.holdoffTimer

/-- The hold-off expires when it is due (R130). -/
def expireHoldoff (s : State) : State :=
  if holdoffDue s then
    let s2 := runPass (settleExperm { s with slu.trip := .normal, slu.holdoffTimer := none })
    raiseBoth (tripNotice .resumed s2) s2
  else s

/-- Trip seconds at an uptime advance: counted outside NORMAL, and reported to the TLY with an ACTIVE record (R133). -/
def countTripSecond (s : State) : State :=
  if s.slu.trip = .normal then s
  else
    let s1 := { s with slu.tripSeconds := satAdd (wordModulus - 1) s.slu.tripSeconds 1 }
    if holdsActive s.evq then handTripSecond s1 else s1

/-! ### Day rollover (R159, R43, R139, R119, R133) -/

/-- The effects of an announced day rollover at its three owners (R159). -/
def rollover (s : State) : State :=
  let s1 := changeHolds rolloverChange s
  settleExperm { s1 with
    docks := s1.docks.map fun r => { r with dayThroughput := 0 }
    slu.tableValid := s1.slu.tableValid && s1.slu.daily
    slu.tripSeconds := 0 }

/-! ### Depot-time moments (R160) -/

/-- The owners' moments at a delivery; the SLU's two are apart, since either may be taken first (R121). -/
inductive Moment where
  | eventQueue
  | planTable
  | tally
  | halfHour
  | limit
  deriving DecidableEq, Repr

/-- Every moment once. -/
def Moment.all : List Moment := [.eventQueue, .planTable, .tally, .halfHour, .limit]

/-- A move of depot time: the time it left, whether the clock was UNSET, whether a TIME SET made it (R157), and the event whose cancel or
revise comes before its end or start at a counted second (R69, R72, log 35). -/
structure ClockMove where
  old : Nat
  wasUnset : Bool
  bySet : Bool
  requestFirst : Option Nat
  deriving DecidableEq, Repr

/-- The move reaches moments: it goes forward, or it starts the clock (R160, R32). -/
def ClockMove.forward (m : ClockMove) (now : Nat) : Bool := m.wasUnset || decide (m.old < now)

/-- The move enters another half hour or another day, or starts the clock (R123). -/
def ClockMove.entersHalfHour (m : ClockMove) (now : Nat) : Bool :=
  m.wasUnset || decide (halfHourIndex m.old ≠ halfHourIndex now) || decide (dayNumber m.old ≠ dayNumber now)

/-- A present override whose expiry depot time has reached (R121). -/
def overrideReached (s : State) : Bool :=
  match s.slu.limit with
  | some o => decide (o.expiry ≤ s.dck.depotTime)
  | none => false

/-- The override lapses and a pass runs, when its expiry is reached (R121). -/
def overrideIfReached (s : State) : State :=
  if overrideReached s then runPass { s with slu.limit := none } else s

/-- The Event Queue takes its moments (R65, R67, R73, R74): expiries at a TIME SET, then an end, then a start. -/
def eventMoments (m : ClockMove) (s : State) : State :=
  takeReached m.requestFirst (if m.bySet then expirePassed s else s)

/-- One owner takes its moments at a delivery (R160). A backward move reaches none, but may enter another half hour (R123). -/
def takeMoment (m : ClockMove) (s : State) : Moment → State
  | .eventQueue => if m.forward s.dck.depotTime then eventMoments m s else s
  | .planTable => if m.forward s.dck.depotTime then checkDue s else s
  | .tally => if m.forward s.dck.depotTime then settlementIfReached s else s
  | .halfHour => if m.entersHalfHour s.dck.depotTime then runPass s else s
  | .limit => if m.forward s.dck.depotTime then overrideIfReached s else s

/-- The new depot time is delivered to the owners in the given order (R160). -/
def deliver (order : List Moment) (m : ClockMove) (s : State) : State := order.foldl (takeMoment m) s

/-! ### Counting and setting the clock (R156 to R158) -/

/-- Draw a free order of a list (log 6). -/
def drawOrder {α : Type} (l : List α) (s : State) : List α := freeOrder s.draws l

/-- A counted depot second, its moments taken in the given order (R156), but for the end or the start of the record `first`, whose cancel or
revise waits next and takes it when it is done (R69, R72, log 35). Not counted while UNSET or at 4,000,000,000. DESIGN CHOICE (log 43): a
rollover comes before an event end or a short-band hand-over at its moment (R156, R159), though R43 lets either be first. -/
def countDepotSecond (first : Option Nat) (order : List Moment) (s : State) : State :=
  if s.dck.running = true ∧ s.dck.depotTime < depotTimeMax then
    let s1 := { s with
      dck.depotTime := s.dck.depotTime + 1
      dck.depotDivider := 0 }
    let s2 := if secondOfDay s1.dck.depotTime = 0 then rollover s1 else s1
    deliver order { old := s.dck.depotTime, wasUnset := false, bySet := false, requestFirst := first } s2
  else s

/-- A TIME SET to t is a day rollover (R157 step 4). -/
def setRollsOver (s : State) (t : Nat) : Bool :=
  !s.dck.running || decide (dayNumber t ≠ dayNumber s.dck.depotTime)

/-- The clock fields after a TIME SET (R157 steps 2 and 3). -/
def Dck.setTo (t : Nat) (k : Dck) : Dck :=
  { k with depotTime := t, depotDivider := 0, running := true, lastChange := .set, lastChangeUptime := k.uptime }

/-- A TIME SET that passed its checks (R157). EXPERM follows the clock's start (R132). -/
def setClock (order : List Moment) (t : Nat) (s : State) : State :=
  let s1 := settleExperm { s with dck := s.dck.setTo t }
  let s2 := if setRollsOver s t then rollover s1 else s1
  deliver order { old := s.dck.depotTime, wasUnset := !s.dck.running, bySet := true, requestFirst := none } s2

/-- The depot time a TIME TRIM of d seconds gives (R158 step 1). -/
def trimmedTime (s : State) (d : Int) : Nat := (clampInt 0 depotTimeMax ((s.dck.depotTime : Int) + d)).toNat

/-- A TIME TRIM that passed its checks (R158). DESIGN CHOICE (log 43): a rollover comes before an event end at its moment, as at a counted second. -/
def trimClock (order : List Moment) (d : Int) (s : State) : State :=
  let t := trimmedTime s d
  let s1 := { s with
    dck.depotTime := t
    dck.lastChange := .trim
    dck.lastChangeUptime := s.dck.uptime }
  let s2 := if dayNumber s.dck.depotTime < dayNumber t then rollover s1 else s1
  deliver order { old := s.dck.depotTime, wasUnset := false, bySet := false, requestFirst := none } s2

/-! ### Rotation timers, allocation timer, recovery timer (R109 to R111, R78, R170) -/

/-- The A timer expires when it is due; the ROT asks for a pass (R109, R110). -/
def expireIntervalA (s : State) : State :=
  if s.rot.aDue s.dck.uptime then runPass { s with rot := s.rot.expireA s.dck.uptime } else s

/-- The B timer expires when it is due; the ROT asks for a pass (R111). -/
def expireIntervalB (s : State) : State :=
  if s.rot.bDue s.dck.uptime then runPass { s with rot := s.rot.expireB s.dck.uptime } else s

/-- The allocation timer is due 2 s after the previous pass (R78). -/
def allocationDue (s : State) : Bool := decide (2 ≤ elapsedSince s.dck.uptime s.alc.previousPass)

/-- The allocation timer expires when it is due and runs a pass (R78). As a command of its own it is due by the previous pass as it
then stands; at an uptime advance `takeAdvance` judges it (log 36). -/
def expireAllocation (s : State) : State := if allocationDue s then runPass s else s

/-- The recovery timer is due in NET-OFF (R170). -/
def recoveryDue (s : State) : Bool := decide (s.dnc.net = .off) && timerDue s.dck.uptime s.dnc.recoveryTimer

/-- The recovery timer expires when it is due (R170). -/
def expireRecovery (s : State) : State := if recoveryDue s then restartNet .recovery s else s

/-- The quiet timer of a port is due in LOCKED (R181). -/
def Port.quietDue (uptime : Nat) (p : Port) : Bool := decide (p.lock = .locked) && timerDue uptime p.quietTimer

/-- The quiet timer expires when it is due: QUIET, the timer stopped, the notice queue emptied uncounted (R181). -/
def Port.expireQuiet (uptime : Nat) (p : Port) : Port :=
  if p.quietDue uptime then { p with lock := .quiet, quietTimer := none, notices := [] } else p

/-! ### The uptime advance (R155) -/

/-- What an uptime advance is delivered to (R155). -/
inductive UptimeOwner where
  | tripSeconds
  | allocation
  | holdoff
  | intervalA
  | intervalB
  | recovery
  | quiet (l : Link)
  | report (d : Dock)
  | grace (d : Dock)
  deriving DecidableEq, Repr

/-- Every owner of an uptime timer or count once (R155). -/
def UptimeOwner.all : List UptimeOwner :=
  [.tripSeconds, .allocation, .holdoff, .intervalA, .intervalB, .recovery, .quiet .grid, .quiet .fleet] ++
    Dock.all.map .report ++ Dock.all.map .grace

/-- One owner takes the advance: it counts, or tests its own expiry (R155). DESIGN CHOICE (log 36): the allocation timer that was due
at the advance (`due`) runs its own pass also after another owner's pass of the same advance (R80), although every pass restarts
the timer (R78). -/
def takeAdvance (due : Bool) (s : State) : UptimeOwner → State
  | .tripSeconds => countTripSecond s
  | .allocation => if due then runPass s else s
  | .holdoff => expireHoldoff s
  | .intervalA => expireIntervalA s
  | .intervalB => expireIntervalB s
  | .recovery => expireRecovery s
  | .quiet l => s.mapPort l (Port.expireQuiet s.dck.uptime)
  | .report d => reportTimeout d s
  | .grace d => silentGrace d s

/-- An uptime advance by one second, delivered in the given order (R155). The uptime divider has returned to 0. -/
def advanceUptime (order : List UptimeOwner) (s : State) : State :=
  let s1 := { s with
    dck.uptime := (s.dck.uptime + 1) % wordModulus
    dck.uptimeDivider := 0 }
  order.foldl (takeAdvance (allocationDue s1)) s1

end Sys2Proof.Machine
end

