-- ==== Sys2Proof/Machine/Encoding.lean ====
section
/-! DEFINITION. How fields, answers and notices are encoded in link bodies (R183, R188, R190, R194 to R196). -/

namespace Sys2Proof.Machine

open Sys2Proof

/-! ### Fields (R188) -/

/-- An unsigned field of n bytes, least significant first (spec 4.6). -/
def encodeNat : Nat → Nat → List Byte
  | 0, _ => []
  | n + 1, v => BitVec.ofNat 8 v :: encodeNat n (v / 256)

/-- A signed field of n bytes, two's complement (R188). -/
def encodeInt (n : Nat) (v : Int) : List Byte := encodeNat n (v % (256 ^ n : Int)).toNat

/-- A two-valued flag (R188). -/
def encodeFlag (b : Bool) : List Byte := [if b then 1 else 0]

/-- An optional field whose range holds 0: presence byte, then the value, 0 when absent (R188). -/
def encodeOption (n : Nat) (v : Option Nat) : List Byte := encodeFlag v.isSome ++ encodeNat n (v.getD 0)

/-- The same for a signed value (R188, manual value). -/
def encodeOptionInt (n : Nat) (v : Option Int) : List Byte := encodeFlag v.isSome ++ encodeInt n (v.getD 0)

/-! ### Coded values (R188: position in the list of the range) -/

def DockState.code : DockState → Byte
  | .disabled => 0 | .absent => 1 | .vacant => 2 | .bound => 3 | .silent => 4 | .faulted => 5

def PriorState.code : PriorState → Byte
  | .vacant => 0 | .bound => 1

def Steering.code : Steering → Byte
  | .allocator => 0 | .manual => 1

def PlanState.code : PlanState → Byte
  | .waiting => 0 | .due => 1 | .departed => 2

def HoldLevel.code : HoldLevel → Byte
  | .none => 0 | .hold => 1 | .lockout => 2

/-- An absent hold source is 255 (R188). -/
def holdSourceCode : Option HoldSource → Byte
  | some .manual => 0
  | some .auto => 1
  | none => 255

def EventState.code : EventState → Byte
  | .pending => 0 | .active => 1

def TripState.code : TripState → Byte
  | .normal => 0 | .tripped => 1 | .holdoff => 2

def EndCause.code : EndCause → Byte
  | .complete => 0 | .cancelled => 1 | .expired => 2

def ClockChange.code : ClockChange → Byte
  | .none => 0 | .set => 1 | .trim => 2

def NetState.code : NetState → Byte
  | .active => 0 | .passive => 1 | .off => 2

def EchoState.code : EchoState → Byte
  | .idle => 0 | .running => 1 | .donePass => 2 | .doneFail => 3 | .aborted => 4

def LockState.code : LockState → Byte
  | .hunt => 0 | .locked => 1 | .quiet => 2

def EventNoticeKind.code : EventNoticeKind → Byte
  | .called => 0 | .started => 1 | .revised => 2 | .ended => 3 | .withdrawn => 4

def TripCause.code : TripCause → Byte
  | .asserted => 0 | .released => 1 | .resumed => 2

def DockNoticeKind.code : DockNoticeKind → Byte
  | .bound => 0 | .released => 1 | .faulted => 2 | .silent => 3 | .absent => 4

def HoldCause.code : HoldCause → Byte
  | .deferred => 0 | .afterEvent => 1 | .shortBand => 2 | .rollover => 3

def NetCause.code : NetCause → Byte
  | .tecCount => 0 | .recCount => 1 | .recovery => 2 | .restart => 3

/-- A fault cause in three bytes (R188). -/
def encodeCause : Option FaultCause → List Byte
  | some (.dock c) => 0 :: encodeNat 2 c
  | some .notFollowing => 1 :: encodeNat 2 0
  | some .powerMismatch => 2 :: encodeNat 2 0
  | some (.duplicateVehicle v) => 3 :: encodeNat 2 v
  | none => 255 :: encodeNat 2 0

/-- An entry of a rotation list: the group, 255 for NONE (R194). -/
def restEntryCode : RestEntry → Byte
  | some g => BitVec.ofNat 8 g.val
  | none => 255

/-- A rotation state in two bytes (R188). -/
def encodeRotState : RotState → List Byte
  | .off => [0, 255]
  | .work => [1, 255]
  | .rest e => [2, restEntryCode e]

/-! ### Answers (R183, R197) -/

/-- The reasons of REFUSED answers (R183). -/
inductive Reason where
  | notPermitted | unknownKind | badLength | badTime | clockUnset | eventActive | queueFull | overlap | past | badWindow
  | tableFull | noSuchVehicle | noSuchDock | dockState | testBusy | netState | short | beyondCommitted | noSuchEvent
  | duplicateId
  deriving DecidableEq, Repr

/-- The reason codes (R183). -/
def Reason.code : Reason → Byte
  | .notPermitted => 1 | .unknownKind => 2 | .badLength => 3 | .badTime => 4 | .clockUnset => 5 | .eventActive => 6
  | .queueFull => 7 | .overlap => 8 | .past => 9 | .badWindow => 10 | .tableFull => 11 | .noSuchVehicle => 12
  | .noSuchDock => 13 | .dockState => 14 | .testBusy => 15 | .netState => 16 | .short => 17 | .beyondCommitted => 18
  | .noSuchEvent => 19 | .duplicateId => 20

/-- An answer: DONE or DONE-CLAMPED with fields, or REFUSED with a reason and, for SHORT, the offer (R183, R190, R197). -/
inductive Answer where
  | done (fields : List Byte)
  | clamped (fields : List Byte)
  | refused (reason : Reason) (fields : List Byte)
  deriving DecidableEq, Repr

/-- DONE-CLAMPED when a value was clamped, DONE otherwise. -/
def Answer.doneOrClamped (wasClamped : Bool) (fields : List Byte) : Answer :=
  if wasClamped then .clamped fields else .done fields

/-- An answer body: status, reason, fields (R183). -/
def Answer.body : Answer → List Byte
  | .done fields => 0 :: 0 :: fields
  | .clamped fields => 1 :: 0 :: fields
  | .refused reason fields => 2 :: reason.code :: fields

/-- The answer frame of a request kind: kind + 0x80 modulo 256 (R183). -/
def Answer.frame (kind : Byte) (a : Answer) : LinkFrame := { kind := kind + 0x80, body := a.body }

/-! ### Records in answers (R191, R194, R195) -/

/-- A plan entry in 14 bytes (R191). -/
def encodePlan (p : Plan) : List Byte :=
  encodeNat 2 p.vehicle ++ encodeNat 4 p.departure ++ encodeNat 2 p.energy ++
    [p.state.code, p.hold.code, holdSourceCode p.source] ++ encodeFlag p.pendingHold ++ encodeFlag p.afterEvent ++
    encodeFlag p.shortHoldOff

/-- A queue record in 22 bytes (R194). -/
def encodeEvent (r : EventRecord) : List Byte :=
  encodeNat 2 r.id ++ encodeNat 4 r.start ++ encodeNat 4 r.stop ++ encodeNat 2 r.target ++ encodeNat 2 r.committedInitial ++
    encodeNat 2 r.committed ++ [r.state.code] ++ encodeOption 4 r.actualStart

/-- The open tally with its presence byte (R194). -/
def encodeTally : Option Tally → List Byte
  | none => encodeFlag false
  | some t =>
    encodeFlag true ++ encodeNat 2 t.eventId ++ encodeInt 4 t.meterNet ++ encodeNat 4 t.dockExport ++ encodeNat 4 t.dockIntake ++
      encodeNat 1 t.participants.length ++ encodeNat 1 t.intervalsTotal ++ encodeNat 1 t.intervalsMet ++ encodeOption 1 t.worst ++
      encodeNat 1 t.divergent ++ encodeNat 2 t.peakShortfall ++ encodeNat 2 t.tripSeconds ++ encodeNat 4 t.interval.start ++
      encodeNat 2 t.interval.committed ++ encodeInt 4 t.interval.meterNet ++ encodeNat 4 t.interval.dockExport ++
      encodeNat 4 t.interval.dockIntake

/-- A participant in six bytes (R194, R195). -/
def encodeParticipant (e : Nat × Nat) : List Byte := encodeNat 2 e.1 ++ encodeNat 4 e.2

/-- A page of at most `n` participants from an index: total, first index, count carried, entries (R194, R195). -/
def encodeParticipants (n first : Nat) (l : List (Nat × Nat)) : List Byte :=
  let page := (l.drop first).take n
  encodeNat 1 l.length ++ encodeNat 1 first ++ encodeNat 1 page.length ++ (page.map encodeParticipant).flatten

/-- A dock record: the fields of R1 in table order, those of R135, then the phase bit (R194). -/
def encodeDock (r : DockRecord) (phase : Bool) : List Byte :=
  [r.state.code] ++ encodeNat 2 (r.vehicle.getD 0) ++ [r.prior.code] ++ encodeOption 4 r.silentSince ++ encodeNat 2 r.stored ++
    encodeNat 2 r.capacity ++ encodeNat 2 r.ratedExport ++ encodeNat 2 r.ratedIntake ++ encodeInt 2 r.measured ++
    encodeInt 2 r.setpoint ++ encodeNat 2 r.share ++ encodeNat 2 r.floor ++ [r.steering.code] ++ encodeOptionInt 2 r.manual ++
    encodeNat 1 r.group.val ++ encodeCause r.cause ++ encodeNat 1 r.cleanCount ++ encodeFlag r.phaseAcked ++
    encodeNat 1 r.phaseMismatch ++ encodeNat 1 r.powerMismatch ++ encodeNat 1 r.missedAck ++ encodeNat 4 r.lastReport ++
    encodeNat 4 r.exportBase ++ encodeNat 4 r.intakeBase ++ encodeNat 4 r.dayThroughput ++ encodeNat 2 r.restartCount ++
    encodeNat 2 r.jumpCount ++ encodeFlag phase

/-- A dock record in the summary of DOCK QUERY 0, six bytes (R194). -/
def encodeDockSummary (r : DockRecord) : List Byte :=
  [r.state.code] ++ encodeNat 2 (r.vehicle.getD 0) ++ encodeInt 2 r.setpoint ++ encodeNat 1 r.group.val

/-- A result from offset 4 to 49 of its answer (R195). -/
def encodeResult (x : Result) : List Byte :=
  encodeNat 2 x.eventId ++ encodeNat 4 x.start ++ encodeNat 4 x.stop ++ encodeOption 4 x.actualStart ++ encodeNat 4 x.actualEnd ++
    [x.cause.code] ++ encodeNat 2 x.committedInitial ++ encodeNat 2 x.committedFinal ++ encodeInt 4 x.meterNet ++
    encodeNat 4 x.dockExport ++ encodeNat 4 x.dockIntake ++ encodeNat 1 x.intervalsTotal ++ encodeNat 1 x.intervalsMet ++
    encodeNat 1 x.worst ++ encodeNat 1 x.divergent ++ encodeNat 2 x.peakShortfall ++ encodeNat 2 x.tripSeconds ++
    encodeNat 2 x.yields

/-- A pending rotation setting (R194). -/
def encodeSetting : Option RotSetting → List Byte
  | none => [0, 0, 0]
  | some p => [1] ++ encodeNat 1 p.list.length ++ encodeFlag p.yieldOn ++ p.list.map restEntryCode

/-- A present or absent headroom override (R188, R194). -/
def encodeOverride : Option Override → List Byte
  | none => encodeFlag false ++ encodeNat 2 0 ++ encodeNat 4 0
  | some o => encodeFlag true ++ encodeNat 2 o.value ++ encodeNat 4 o.expiry

/-! ### Notices (R196) -/

/-- The kind byte of a notice (R196). -/
def Notice.kind : Notice → Byte
  | .event _ _ _ => 0xE0
  | .trip _ _ _ _ _ _ _ => 0xE1
  | .dock _ _ _ _ _ => 0xE2
  | .hold _ _ _ _ _ => 0xE3
  | .net _ _ _ _ _ _ _ => 0xE4

/-- The body of a notice, lead byte 255 first (R196). -/
def Notice.body : Notice → List Byte
  | .event k r ended =>
    [255, k.code] ++ encodeNat 2 r.id ++ encodeNat 4 r.start ++ encodeNat 4 r.stop ++ encodeNat 2 r.committed ++ [r.state.code] ++
      encodeOption 4 r.actualStart ++
      (match ended with
        | some e => [e.1.code] ++ encodeNat 4 e.2
        | none => [255] ++ encodeNat 4 0)
  | .trip c st count seconds timer uptime depotTime =>
    [255, c.code, st.code] ++ encodeNat 2 count ++ encodeNat 4 seconds ++ encodeNat 4 (timer.getD 0) ++ encodeNat 4 uptime ++
      encodeNat 4 depotTime
  | .dock d k st v c => [255] ++ encodeNat 1 d.addr ++ [k.code, st.code] ++ encodeNat 2 v ++ encodeCause c
  | .hold v c level source p =>
    [255] ++ encodeNat 2 v ++ [c.code, level.code, holdSourceCode source] ++ encodeFlag p
  | .net before after c tec recCount foreign uptime =>
    [255, before.code, after.code, c.code] ++ encodeNat 2 tec ++ encodeNat 1 recCount ++ encodeNat 1 foreign ++ encodeNat 4 uptime

/-- A notice as a link frame (R196). -/
def Notice.frame (n : Notice) : LinkFrame := { kind := n.kind, body := n.body }

/-- The link frame a transmitter is sending (R184). -/
def Outgoing.frame : Outgoing → LinkFrame
  | .answer f => f
  | .notice n => n.frame

end Sys2Proof.Machine
end

