-- ==== Sys2Proof/Machine/Requests.lean ====
section
/-! DEFINITION. What the owner of each request does with it and how it answers (spec chapter 11 and the owning rules). Each
operation is the request as it is taken, one event (R182). -/

namespace Sys2Proof.Machine

open Sys2Proof

/-- A refusal: no effect, status and reason only (R183, R197). -/
def refuse (r : Reason) (s : State) : State × Answer := (s, .refused r [])

/-! ### Grid Link: clock and site (R157, R158, R118, R120, R125) -/

/-- TIME SET (R157); taken, it uses one free order of the moments it delivers (R160, log 5). -/
def requestTimeSet (t : Nat) (s : State) : State × Answer :=
  if depotTimeMax < t then refuse .badTime s
  else if holdsActive s.evq then refuse .eventActive s
  else
    let s' := setClock (drawOrder Moment.all s) t s.drawn
    (s', .done (encodeNat 4 s'.dck.depotTime ++ encodeFlag (setRollsOver s t)))

/-- TIME TRIM (R158); taken, it uses one free order of the moments it delivers (R160, log 5). -/
def requestTimeTrim (d : Int) (s : State) : State × Answer :=
  if s.dck.running = false then refuse .clockUnset s
  else if d < -30 ∨ 30 < d then refuse .badTime s
  else
    let s' := trimClock (drawOrder Moment.all s) d s.drawn
    let outside := decide ((s.dck.depotTime : Int) + d < 0) || decide ((depotTimeMax : Int) < (s.dck.depotTime : Int) + d)
    (s', .doneOrClamped outside (encodeNat 4 s'.dck.depotTime))

/-- Write headroom values from an index on, each clamped to 24000 (R118). -/
def writeHeadroom (first : Nat) (values : List Nat) (t : Vector Nat 48) : Vector Nat 48 :=
  values.zipIdx.foldl (fun t e => t.setIfInBounds (first + e.2) (min e.1 24000)) t

/-- HEADROOM LOAD (R118). -/
def requestHeadroomLoad (first : Nat) (daily : Bool) (values : List Nat) (s : State) : State × Answer :=
  if 47 < first ∨ values.length = 0 ∨ 48 < first + values.length then refuse .badLength s
  else
    let s1 := settleExperm { s with
      slu.table := writeHeadroom first values s.slu.table
      slu.tableValid := true
      slu.daily := daily }
    (runPass s1, .doneOrClamped (values.any fun v => decide (24000 < v)) [])

/-- HEADROOM OVERRIDE (R120). The value is clamped only where it is used: with an expiry not after now it is dropped, and the answer
is DONE (spec 4.5). -/
def requestHeadroomOverride (value expiry : Nat) (s : State) : State × Answer :=
  if s.dck.running = false then refuse .clockUnset s
  else if depotTimeMax < expiry then refuse .badTime s
  else
    let limit : Option Override := if s.dck.depotTime < expiry then some { value := min value 24000, expiry := expiry } else none
    (runPass { s with slu.limit := limit }, .doneOrClamped (limit.isSome && decide (24000 < value)) (encodeFlag limit.isSome))

/-- TRIP HOLDOFF SET (R125). -/
def requestTripHoldoff (seconds : Nat) (s : State) : State × Answer :=
  let v := clampNat 10 600 seconds
  ({ s with slu.holdoff := v }, .doneOrClamped (decide (v ≠ seconds)) (encodeNat 2 v))

/-! ### Grid Link: dispatch (R55 to R72) -/

/-- The window check that DISPATCH CALL and OFFER QUERY share (R56 check 3, R64 check 2). -/
def badWindow (now start stop : Nat) : Bool :=
  decide ((stop : Int) - start < 300) || decide ((14400 : Int) < (stop : Int) - start) || decide (now + 172800 < start) ||
    decide (depotTimeMax < stop)

/-- A called window stands ahead of the ACTIVE record, which R52 has first: backward trims can bring depot time so far back (R67), and
the bare checks of R56 would let the call in. DESIGN CHOICE: it is refused with check 5 (log 34). -/
def aheadOfActive (start : Nat) (q : List EventRecord) : Bool := q.any fun r => decide (r.state = .active) && decide (start < r.start)

/-- Checks 1 to 6 of a DISPATCH CALL, in order (R56, R57), check 5 with `aheadOfActive` (log 34). -/
def callRefusal (s : State) (id start stop : Nat) : Option Reason :=
  let now := s.dck.depotTime
  if s.dck.running = false then some .clockUnset
  else if id = 0 ∨ eventIdHeld s id = true then some .duplicateId
  else if badWindow now start stop then some .badWindow
  else if stop ≤ now then some .past
  else if s.evq.any (fun r => windowsOverlap start stop r.start r.stop) = true ∨
      (start ≤ now ∧ holdsActive s.evq = true) ∨ aheadOfActive start s.evq = true then some .overlap
  else if 8 ≤ s.evq.length then some .queueFull
  else none

/-- The decision on a call that passed its checks: the committed power and whether it was reduced (R58). -/
def callDecision (offer target minAccept : Nat) : Option (Nat × Bool) :=
  if 10 ≤ target ∧ target ≤ offer then some (target, false)
  else if 10 ≤ offer ∧ minAccept ≤ offer ∧ offer < target then some (offer, true)
  else none

/-- The record of an accepted call (R59). -/
def calledRecord (id start stop target committed : Nat) : EventRecord :=
  { id := id, start := start, stop := stop, target := target, committedInitial := committed, committed := committed,
    state := .pending, actualStart := none }

/-- The offer of a call: for a late call the window begins now (R58, R63). -/
def callOffer (s : State) (start stop target : Nat) : Nat := min target (windowOffer s (max start s.dck.depotTime) stop)

/-- DISPATCH CALL (R55 to R60, R190). -/
def requestCall (id start stop target minAccept : Nat) (s : State) : State × Answer :=
  match callRefusal s id start stop with
  | some reason => refuse reason s
  | none =>
    let offer := callOffer s start stop target
    match callDecision offer target minAccept with
    | none => (s, .refused .short (encodeNat 2 offer))
    | some (committed, reduced) =>
      let r := calledRecord id start stop target committed
      let late := decide (start ≤ s.dck.depotTime)
      let s1 := raiseBoth (eventNotice .called r) (s.mapEvq (insertEvent r))
      let s2 := if late then startFirst s1 else s1
      (s2, .done (encodeFlag reduced ++ encodeNat 2 committed ++ encodeNat 2 offer ++ encodeFlag late))

/-- The reference start of a revise: the actual start of an ACTIVE record, the start of a PENDING one (R70). -/
def EventRecord.referenceStart (r : EventRecord) : Nat :=
  match r.state with
  | .active => r.actualStart.getD r.start
  | .pending => r.start

/-- Checks 2 to 5 of a DISPATCH REVISE against the record named (R70). DESIGN CHOICE (log 40): check 5 also refuses a new end equal to the end
of a record that started less than 300 s before it, as the table of R70 has it. -/
def reviseRefusal (now target stop : Nat) (r : EventRecord) : Option Reason :=
  if target ≠ 0 ∧ r.committed < target then some .beyondCommitted
  else if stop ≠ 0 ∧ r.stop < stop then some .badWindow
  else if stop ≠ 0 ∧ stop ≤ now then some .badWindow
  else if stop ≠ 0 ∧ (stop : Int) - r.referenceStart < 300 then some .badWindow
  else none

/-- The record as revised (R71). -/
def EventRecord.revised (target stop : Nat) (r : EventRecord) : EventRecord :=
  { r with
    committed := if target = 0 then r.committed else max target 10
    stop := if stop = 0 then r.stop else stop }

/-- A cancel or a revise with the moments that it was taken before (R69, R72, log 35). -/
def thenReached (r : State × Answer) : State × Answer := (takeAfterRequest r.1, r.2)

/-- The revision of the record named (R70, R71). -/
def reviseNamed (id target stop : Nat) (s : State) : State × Answer :=
  match s.evq.find? fun r => decide (r.id = id) with
  | none => refuse .noSuchEvent s
  | some r =>
    match reviseRefusal s.dck.depotTime target stop r with
    | some reason => refuse reason s
    | none =>
      let r' := r.revised target stop
      let s1 := s.mapEvq (List.map fun q => if q.id = id then q.revised target stop else q)
      (raiseBoth (eventNotice .revised r') s1, .doneOrClamped (decide (target ≠ 0 ∧ target < 10)) (encodeEvent r'))

/-- DISPATCH REVISE (R70, R71, R72). -/
def requestRevise (id target stop : Nat) (s : State) : State × Answer := thenReached (reviseNamed id target stop s)

/-- The cancelling of the record named (R69). -/
def cancelNamed (id : Nat) (s : State) : State × Answer :=
  match s.evq.find? fun r => decide (r.id = id) with
  | none => refuse .noSuchEvent s
  | some r =>
    match r.state with
    | .pending =>
      (raiseBoth (eventNotice .withdrawn r) (s.mapEvq (List.filter fun q => decide (q.id ≠ id))), .done [])
    | .active => (endActive r .cancelled s.dck.depotTime s, .done [])

/-- DISPATCH CANCEL (R69). -/
def requestCancel (id : Nat) (s : State) : State × Answer := thenReached (cancelNamed id s)

/-- OFFER QUERY (R64). -/
def requestOffer (start stop : Nat) (s : State) : State × Answer :=
  let now := s.dck.depotTime
  if s.dck.running = false then refuse .clockUnset s
  else if badWindow now start stop then refuse .badWindow s
  else if stop ≤ now then refuse .past s
  else
    let from' := max start now
    (s, .done (encodeNat 2 (headroomTerm s from' stop) ++ encodeNat 2 (energyTerm s from' stop) ++
      encodeNat 1 (contributions s from' stop).length ++ encodeNat 2 (windowOffer s from' stop)))

/-- The result a RESULT QUERY selects: the oldest unread for id 0, else the one with the id (R153). -/
def selectResult (id : Nat) (l : List Result) : Option Result :=
  if id = 0 then l.find? fun x => !x.read else l.find? fun x => decide (x.eventId = id)

/-- Set the read flag of the result with an event id (R153). -/
def markRead (id : Nat) (l : List Result) : List Result := l.map fun x => if x.eventId = id then { x with read := true } else x

/-- RESULT QUERY (R153, R195). -/
def requestResult (id first : Nat) (s : State) : State × Answer :=
  match selectResult id s.tly.results with
  | none => refuse .noSuchEvent s
  | some x =>
    let s' := { s with tly.results := markRead x.eventId s.tly.results }
    (s', .done (encodeNat 1 (s'.tly.results.countP fun y => !y.read) ++ encodeNat 1 s.tly.resultsLost ++ encodeResult x ++
      encodeFlag x.read ++ encodeParticipants 32 first x.participants))

/-! ### Fleet Link: plans and holds (R31 to R39) -/

/-- The entry a PLAN LOAD leaves: a new one, or the old one replaced in place with its holds kept (R31). -/
def loadedPlan (old : Option Plan) (vehicle departure energy : Nat) (afterEvent shortHoldOff : Bool) : Plan :=
  { vehicle := vehicle, departure := departure, energy := energy, state := .waiting,
    hold := match old with | some p => p.hold | none => .none
    source := match old with | some p => p.source | none => none
    pendingHold := match old with | some p => p.pendingHold | none => false
    afterEvent := afterEvent, shortHoldOff := shortHoldOff }

/-- PLAN LOAD (R31). -/
def requestPlanLoad (vehicle departure energy : Nat) (afterEvent shortHoldOff : Bool) (s : State) : State × Answer :=
  let old := findPlan s.rpt.plans vehicle
  if vehicle = 0 ∨ vehicle = 65535 then refuse .noSuchVehicle s
  else if depotTimeMax < departure then refuse .badTime s
  else if old.isNone = true ∧ 64 ≤ s.rpt.plans.length then refuse .tableFull s
  else
    let p := loadedPlan old vehicle departure (min energy 4000) afterEvent shortHoldOff
    let s1 := s.mapPlans fun plans => if old.isSome then updatePlan vehicle (fun _ => p) plans else insertPlan p plans
    let s2 := checkDueOf vehicle s1
    (s2, .doneOrClamped (decide (4000 < energy)) (encodePlan ((findPlan s2.rpt.plans vehicle).getD p)))

/-- PLAN DELETE (R35). -/
def requestPlanDelete (vehicle : Nat) (s : State) : State × Answer :=
  match findPlan s.rpt.plans vehicle with
  | none => refuse .noSuchVehicle s
  | some _ => (s.mapPlans (List.filter fun p => decide (p.vehicle ≠ vehicle)), .done [])

/-- PLAN QUERY mode 0 (R192, R29). -/
def requestPlanOne (vehicle : Nat) (s : State) : State × Answer :=
  match findPlan s.rpt.plans vehicle with
  | none => refuse .noSuchVehicle s
  | some p => (s, .done (encodePlan p))

/-- PLAN QUERY mode 1: a page of up to 17 entries from an id on (R192). -/
def requestPlanPage (vehicle : Nat) (s : State) : State × Answer :=
  let rest := s.rpt.plans.filter fun p => decide (vehicle ≤ p.vehicle)
  let page := rest.take 17
  (s, .done (encodeNat 1 page.length ++ encodeFlag (decide (17 < rest.length)) ++ (page.map encodePlan).flatten))

/-- The answer of HOLD SET: level, source and pending hold of the entry (R191). -/
def holdFields (plans : List Plan) (v : Nat) : List Byte :=
  match findPlan plans v with
  | some p => [p.hold.code, holdSourceCode p.source] ++ encodeFlag p.pendingHold
  | none => []

/-- LOCKOUT on an entry (R37). DESIGN CHOICE (log 45): a pending hold is cleared on an entry already at LOCKOUT too ("in every case"), though R37
closes that such an entry is left as it is. -/
def Plan.lockout (p : Plan) : Plan := { p with hold := .lockout, source := none, pendingHold := false }

/-- HOLD SET with level LOCKOUT (R37); it asks for a pass. -/
def requestLockout (v : Nat) (s : State) : State × Answer :=
  match findPlan s.rpt.plans v with
  | none => refuse .noSuchVehicle s
  | some _ =>
    let s1 := s.mapPlans (updatePlan v Plan.lockout)
    (runPass s1, .done (holdFields s1.rpt.plans v))

/-- The vehicle is bound to a dock whose export share is above 0 (R38). -/
def vehicleExports (s : State) (v : Nat) : Bool :=
  Dock.all.any fun d => decide ((s.dock d).vehicle = some v ∧ 0 < (s.dock d).share)

/-- HOLD SET with level HOLD (R38): pending while the vehicle exports in an ACTIVE event, at once otherwise. DESIGN CHOICE (log 44): the two
conditions decide also for an entry at HOLD (AUTO) or LOCKOUT whose dock still has its share, though R38 lists such an entry as taken at once. -/
def requestHold (v : Nat) (s : State) : State × Answer :=
  match findPlan s.rpt.plans v with
  | none => refuse .noSuchVehicle s
  | some _ =>
    let s1 :=
      if holdsActive s.evq = true ∧ vehicleExports s v = true then
        s.mapPlans (updatePlan v fun p => { p with pendingHold := true })
      else s.mapPlans (updatePlan v Plan.holdManual)
    (s1, .done (holdFields s1.rpt.plans v))

/-- HOLD CLEAR (R39). -/
def requestHoldClear (v : Nat) (s : State) : State × Answer :=
  match findPlan s.rpt.plans v with
  | none => refuse .noSuchVehicle s
  | some _ =>
    (s.mapPlans (updatePlan v fun p => { p with hold := .none, source := none, pendingHold := false }), .done [])

/-! ### Fleet Link: parameters (R193, R45, R124, R106, R140) -/

/-- The range of a parameter id (R193). -/
def parameterRange (id : Nat) : Option (Nat × Nat) :=
  match id with
  | 1 => some (0, 50)
  | 2 => some (10, 60)
  | 3 => some (0, 600)
  | 4 => some (50, 100)
  | 5 => some (0, 7200)
  | 6 => some (0, 200)
  | 7 => some (0, 24000)
  | 8 => some (10, 24000)
  | 9 => some (300, 3600)
  | 10 => some (60, 1800)
  | 11 => some (0, 1000)
  | _ => none

/-- The value of a parameter (R193). -/
def parameterValue (s : State) (id : Nat) : Nat :=
  match id with
  | 1 => s.rpt.margin
  | 2 => s.rpt.keep
  | 3 => s.rpt.planningIntake
  | 4 => s.rpt.planningEfficiency
  | 5 => s.rpt.readyLead
  | 6 => s.rpt.shortBand
  | 7 => s.slu.intakeCeiling
  | 8 => s.slu.rampRate
  | 9 => s.rot.intervalA
  | 10 => s.rot.intervalB
  | 11 => s.tly.meterWeight
  | _ => 0

/-- Write a parameter at its owner (R193). -/
def writeParameter (id v : Nat) (s : State) : State :=
  match id with
  | 1 => { s with rpt.margin := v }
  | 2 => { s with rpt.keep := v }
  | 3 => { s with rpt.planningIntake := v }
  | 4 => { s with rpt.planningEfficiency := v }
  | 5 => { s with rpt.readyLead := v }
  | 6 => { s with rpt.shortBand := v }
  | 7 => { s with slu.intakeCeiling := v }
  | 8 => { s with slu.rampRate := v }
  | 9 => { s with rot.intervalA := v }
  | 10 => { s with rot.intervalB := v }
  | 11 => { s with tly.meterWeight := v }
  | _ => s

/-- PARAMETER SET (R193). -/
def requestParameterSet (id value : Nat) (s : State) : State × Answer :=
  match parameterRange id with
  | none => refuse .badLength s
  | some (lo, hi) =>
    let v := clampNat lo hi value
    (writeParameter id v s, .doneOrClamped (decide (v ≠ value)) (encodeNat 2 v))

/-- PARAMETER QUERY: one value, or with id 0 all eleven (R193). -/
def requestParameterQuery (id : Nat) (s : State) : State × Answer :=
  if id = 0 then (s, .done (((List.range 11).map fun i => encodeNat 2 (parameterValue s (i + 1))).flatten))
  else
    match parameterRange id with
    | none => refuse .badLength s
    | some _ => (s, .done (encodeNat 2 (parameterValue s id)))

/-! ### Fleet Link: rotation (R113, R114) -/

/-- An entry of a ROTATION SET: a group 0..3, or 255 for NONE; any other value is none (R113). -/
def restEntryOf (v : Nat) : Option RestEntry :=
  if h : v < 4 then some (some ⟨v, h⟩) else if v = 255 then some none else none

/-- ROTATION SET (R113, R114). -/
def requestRotationSet (yieldOn : Bool) (entries : List Nat) (s : State) : State × Answer :=
  if 16 < entries.length then refuse .badLength s
  else
    match entries.mapM restEntryOf with
    | none => refuse .badLength s
    | some list =>
      if holdsActive s.evq then
        ({ s with rot.pendingSetting := some { list := list, yieldOn := yieldOn } }, .done (encodeFlag true))
      else
        ({ s with
          rot.list := list
          rot.yieldOn := yieldOn
          rot.cursor := 0 }, .done (encodeFlag false))

/-! ### Fleet Link: docks (R23 to R28) -/

/-- A request naming a dock: an address outside 1..40 is refused (R23). -/
def onDock (a : Nat) (act : Dock → State → State × Answer) (s : State) : State × Answer :=
  match dockOfAddr a with
  | none => refuse .noSuchDock s
  | some d => act d s

/-- GROUP SET (R28). -/
def requestGroupSet (a group : Nat) (s : State) : State × Answer :=
  onDock a (fun d s =>
    let g : Fin 4 := if h : group < 4 then ⟨group, h⟩ else 3
    (s.modifyDock d fun r => { r with group := g }, .doneOrClamped (decide (3 < group)) (encodeNat 1 g.val))) s

/-- DOCK MANUAL (R26). -/
def requestDockManual (a : Nat) (value : Int) (s : State) : State × Answer :=
  onDock a (fun d s =>
    let r := s.dock d
    if r.state = .bound then
      let v := clampInt (-(r.ratedIntake : Int)) r.ratedExport value
      (s.modifyDock d fun r => { r with steering := .manual, manual := some v },
        .doneOrClamped (decide (v ≠ value)) (encodeInt 2 v))
    else refuse .dockState s) s

/-- DOCK AUTO (R27). -/
def requestDockAuto (a : Nat) (s : State) : State × Answer :=
  onDock a (fun d s => (s.modifyDock d DockRecord.toAllocator, .done [])) s

/-- DOCK ENABLE (R23). -/
def requestDockEnable (a : Nat) (s : State) : State × Answer :=
  onDock a (fun d s =>
    if (s.dock d).state = .disabled then (s.modifyDock d (DockRecord.enter .absent), .done []) else refuse .dockState s) s

/-- DOCK DISABLE (R24). -/
def requestDockDisable (a : Nat) (s : State) : State × Answer :=
  onDock a (fun d s => (if (s.dock d).state = .disabled then s else disableDock d s, .done [])) s

/-- A fault cause that DOCK CLEAR removes (R25). -/
def clearableCause : Option FaultCause → Bool
  | some .notFollowing => true
  | some .powerMismatch => true
  | some (.dock _) => false
  | some (.duplicateVehicle _) => false
  | none => false

/-- DOCK CLEAR (R25). -/
def requestDockClear (a : Nat) (s : State) : State × Answer :=
  onDock a (fun d s =>
    let r := s.dock d
    if clearableCause r.cause then
      match r.state with
      | .faulted => (leaveFaulted ⟨false, false⟩ d s, .done [])
      | .silent => (s.modifyDock d fun r => { r with cause := none }, .done [])
      | _ => refuse .dockState s
    else refuse .dockState s) s

/-! ### Fleet Link: Dock Net (R171, R175, R177) -/

/-- NET RESTART (R171). -/
def requestNetRestart (s : State) : State × Answer := (restartNet .restart s, .done [])

/-- The echo test an accepted ECHO TEST starts (R175). -/
def Dnc.startEcho (a count : Nat) (n : Dnc) : Dnc :=
  { n with
    echo := { state := .running, dock := a, count := count, sequence := 1, matched := 0, mismatched := 0, missed := 0, wait := none }
    queuedEcho := some { dock := a, sequence := 1 } }

/-- ECHO TEST (R175). -/
def requestEchoTest (a count : Nat) (s : State) : State × Answer :=
  onDock a (fun d s =>
    if count = 0 then refuse .badLength s
    else if holdsActive s.evq then refuse .eventActive s
    else if s.dnc.echo.state = .running then refuse .testBusy s
    else if ¬((s.dock d).state = .vacant ∨ (s.dock d).state = .bound) then refuse .dockState s
    else if s.dnc.net ≠ .active then refuse .netState s
    else (s.mapDnc (Dnc.startEcho a count), .done [])) s

/-- ECHO QUERY (R177, R191). -/
def requestEchoQuery (s : State) : State × Answer :=
  let e := s.dnc.echo
  (s, .done ([e.state.code] ++ encodeNat 1 e.dock ++ encodeNat 1 e.count ++ encodeNat 1 e.sequence ++ encodeNat 1 e.matched ++
    encodeNat 1 e.mismatched ++ encodeNat 1 e.missed))

/-! ### Shared queries (R194, R186) -/

/-- QUEUE QUERY part 0: records, open tally, results (R194). -/
def requestQueueQuery (s : State) : State × Answer :=
  (s, .done (encodeNat 1 s.evq.length ++ (s.evq.map encodeEvent).flatten ++ encodeTally s.tly.tally ++
    encodeNat 1 s.tly.results.length ++
    (s.tly.results.map fun x => encodeNat 2 x.eventId ++ [x.cause.code] ++ encodeFlag x.read).flatten ++
    encodeNat 1 s.tly.resultsLost))

/-- QUEUE QUERY part 1: a page of up to 40 participants of the open tally (R194). -/
def requestQueueParticipants (first : Nat) (s : State) : State × Answer :=
  (s, .done (encodeParticipants 40 first (match s.tly.tally with | some t => t.participants | none => [])))

/-- SITE QUERY (R194): the fields of R77, R104, R117 with H_now, R140 and R162. -/
def requestSiteQuery (s : State) : State × Answer :=
  (s, .done (
    encodeInt 2 s.alc.previousNet ++ encodeNat 2 s.alc.previousIntake ++ encodeNat 4 s.alc.previousPass ++
    encodeNat 2 s.alc.lastShortfall ++ encodeFlag s.alc.lastYield ++ encodeNat 4 (expiryAfter s.alc.previousPass 2) ++
    encodeNat 1 s.rot.list.length ++ s.rot.list.map restEntryCode ++ encodeFlag s.rot.yieldOn ++
    encodeSetting s.rot.pendingSetting ++ encodeNat 1 s.rot.cursor ++ encodeRotState s.rot.state ++
    encodeOption 4 s.rot.aTimer ++ encodeOption 4 s.rot.bTimer ++ encodeNat 2 s.rot.yieldCount ++
    (s.slu.table.toList.map (encodeNat 2)).flatten ++ encodeFlag s.slu.tableValid ++ encodeFlag s.slu.daily ++
    encodeOverride s.slu.limit ++ encodeNat 2 s.slu.intakeCeiling ++ encodeNat 2 s.slu.rampRate ++ encodeNat 2 s.slu.holdoff ++
    encodeFlag s.slu.lineAsserted ++ [s.slu.trip.code] ++ encodeOption 4 s.slu.holdoffTimer ++ encodeNat 2 s.slu.tripCount ++
    encodeNat 4 s.slu.tripSeconds ++ encodeFlag s.slu.experm ++ encodeNat 2 (hNow s) ++
    encodeNat 4 s.tly.siteExport ++ encodeNat 4 s.tly.siteImport ++ encodeNat 2 s.tly.meterWeight ++
    [s.dnc.net.code] ++ encodeNat 2 s.dnc.tec ++ encodeNat 1 s.dnc.recCount ++ encodeNat 1 s.dnc.foreign ++
    encodeNat 1 s.dnc.framesQueued))

/-- CLOCK QUERY (R154, R194). -/
def requestClockQuery (s : State) : State × Answer :=
  let k := s.dck
  (s, .done (encodeFlag k.running ++ encodeNat 4 k.depotTime ++ encodeNat 2 k.depotDivider ++ encodeNat 4 k.uptime ++
    encodeNat 2 k.uptimeDivider ++ [k.lastChange.code] ++ encodeNat 4 k.lastChangeUptime ++
    encodeNat 4 (secondOfDay k.depotTime) ++ encodeNat 2 (dayNumber k.depotTime) ++ encodeNat 1 (halfHourIndex k.depotTime)))

/-- LINK QUERY on a port (R186): the query itself, being taken, is one of the requests held. -/
def requestLinkQuery (l : Link) (s : State) : State × Answer :=
  let p := s.port l
  (s.mapPort l fun p => { p with badFrames := 0, overruns := 0, droppedNotices := 0 },
    .done ([p.lock.code] ++ encodeNat 1 p.badFrames ++ encodeNat 1 p.overruns ++ encodeNat 1 p.droppedNotices ++
      encodeNat 1 p.notices.length ++ encodeNat 1 p.holding.length))

/-- DOCK QUERY: dock 0 the summary, 1..40 one record (R194). -/
def requestDockQuery (a : Nat) (s : State) : State × Answer :=
  if a = 0 then (s, .done ((s.docks.toList.map encodeDockSummary).flatten))
  else onDock a (fun d s => (s, .done (encodeDock (s.dock d) (s.dnc.phaseOf d)))) s

end Sys2Proof.Machine
end

