-- ==== Sys2Proof/Machine/Operands.lean ====
section
/-! DEFINITION. The operand forms of link requests: the catalogue of kinds and the fields of each body (R183, R189, R191, R194). -/

namespace Sys2Proof.Machine

open Sys2Proof

/-- The request kinds of the catalogue (R189, R191, R194). -/
inductive RequestKind where
  | timeSet | timeTrim | headroomLoad | headroomOverride | tripHoldoffSet | dispatchCall | dispatchRevise | dispatchCancel
  | offerQuery | resultQuery | planLoad | planDelete | planQuery | holdSet | holdClear | parameterSet | parameterQuery
  | rotationSet | groupSet | dockManual | dockAuto | dockEnable | dockDisable | dockClear | netRestart | echoTest | echoQuery
  | queueQuery | siteQuery | clockQuery | linkQuery | dockQuery
  deriving DecidableEq, Repr

/-- The kind byte of a request (R189, R191, R194). -/
def RequestKind.code : RequestKind → Byte
  | .timeSet => 0x10 | .timeTrim => 0x11 | .headroomLoad => 0x12 | .headroomOverride => 0x13 | .tripHoldoffSet => 0x14
  | .dispatchCall => 0x15 | .dispatchRevise => 0x16 | .dispatchCancel => 0x17 | .offerQuery => 0x18 | .resultQuery => 0x19
  | .planLoad => 0x30 | .planDelete => 0x31 | .planQuery => 0x32 | .holdSet => 0x33 | .holdClear => 0x34
  | .parameterSet => 0x35 | .parameterQuery => 0x36 | .rotationSet => 0x37 | .groupSet => 0x38 | .dockManual => 0x39
  | .dockAuto => 0x3A | .dockEnable => 0x3B | .dockDisable => 0x3C | .dockClear => 0x3D | .netRestart => 0x3E
  | .echoTest => 0x3F | .echoQuery => 0x40 | .queueQuery => 0x60 | .siteQuery => 0x61 | .clockQuery => 0x62
  | .linkQuery => 0x63 | .dockQuery => 0x64

/-- The whole catalogue. -/
def RequestKind.all : List RequestKind :=
  [.timeSet, .timeTrim, .headroomLoad, .headroomOverride, .tripHoldoffSet, .dispatchCall, .dispatchRevise, .dispatchCancel,
    .offerQuery, .resultQuery, .planLoad, .planDelete, .planQuery, .holdSet, .holdClear, .parameterSet, .parameterQuery,
    .rotationSet, .groupSet, .dockManual, .dockAuto, .dockEnable, .dockDisable, .dockClear, .netRestart, .echoTest, .echoQuery,
    .queueQuery, .siteQuery, .clockQuery, .linkQuery, .dockQuery]

/-- The request of a kind byte; none for a kind outside the catalogue (R183 check 1). -/
def requestKindOf (b : Byte) : Option RequestKind := RequestKind.all.find? fun k => decide (k.code = b)

/-- The set of a kind permits it on a link: Grid 0x10..0x19, Fleet 0x30..0x40, shared on both (R183 check 2). -/
def RequestKind.permitted (k : RequestKind) (l : Link) : Bool :=
  if k.code.toNat ≤ 0x19 then decide (l = .grid) else if k.code.toNat ≤ 0x40 then decide (l = .fleet) else true

/-- A request with its fields (R189, R191, R194). Mode, part and level bytes are kept, since their owners check them (R188). -/
inductive Request where
  | timeSet (t : Nat)
  | timeTrim (d : Int)
  | headroomLoad (first : Nat) (daily : Bool) (values : List Nat)
  | headroomOverride (value expiry : Nat)
  | tripHoldoffSet (seconds : Nat)
  | dispatchCall (id start stop target minAccept : Nat)
  | dispatchRevise (id target stop : Nat)
  | dispatchCancel (id : Nat)
  | offerQuery (start stop : Nat)
  | resultQuery (id first : Nat)
  | planLoad (vehicle departure energy : Nat) (afterEvent shortHoldOff : Bool)
  | planDelete (vehicle : Nat)
  | planQuery (mode vehicle : Nat)
  | holdSet (vehicle level : Nat)
  | holdClear (vehicle : Nat)
  | parameterSet (id value : Nat)
  | parameterQuery (id : Nat)
  | rotationSet (yieldOn : Bool) (entries : List Nat)
  | groupSet (dock group : Nat)
  | dockManual (dock : Nat) (value : Int)
  | dockAuto (dock : Nat)
  | dockEnable (dock : Nat)
  | dockDisable (dock : Nat)
  | dockClear (dock : Nat)
  | netRestart
  | echoTest (dock count : Nat)
  | echoQuery
  | queueQuery (part first : Nat)
  | siteQuery
  | clockQuery
  | linkQuery
  | dockQuery (dock : Nat)
  deriving DecidableEq, Repr

/-- A field of n bytes at an offset of a body (spec 4.6). -/
def bodyField (body : List Byte) (offset n : Nat) : Nat := ofBytes ((body.drop offset).take n)

/-- A flag byte of a request: any value other than 0 reads as 1 (R188). -/
def bodyFlag (body : List Byte) (offset : Nat) : Bool := decide (bodyField body offset 1 ≠ 0)

/-- The consecutive two-byte values of a list of bytes (R189, HEADROOM LOAD). -/
def pairs : List Byte → List Nat
  | a :: b :: l => ofBytes [a, b] :: pairs l
  | _ => []

/-- The body length the layout of a kind asks for, counts the body carries included (R183 check 3, R189, R191, R194). -/
def RequestKind.bodyLength (body : List Byte) : RequestKind → Nat
  | .timeSet => 4
  | .timeTrim => 2
  | .headroomLoad => 3 + 2 * bodyField body 1 1
  | .headroomOverride => 6
  | .tripHoldoffSet => 2
  | .dispatchCall => 14
  | .dispatchRevise => 8
  | .dispatchCancel => 2
  | .offerQuery => 8
  | .resultQuery => 3
  | .planLoad => 10
  | .planDelete => 2
  | .planQuery => 3
  | .holdSet => 3
  | .holdClear => 2
  | .parameterSet => 3
  | .parameterQuery => 1
  | .rotationSet => 2 + bodyField body 0 1
  | .groupSet => 2
  | .dockManual => 3
  | .dockAuto => 1
  | .dockEnable => 1
  | .dockDisable => 1
  | .dockClear => 1
  | .netRestart => 0
  | .echoTest => 2
  | .echoQuery => 0
  | .queueQuery => 2
  | .siteQuery => 0
  | .clockQuery => 0
  | .linkQuery => 0
  | .dockQuery => 1

/-- The fields of a body of the right length (R189, R190, R191, R194, R195). -/
def RequestKind.fields (body : List Byte) : RequestKind → Request
  | .timeSet => .timeSet (bodyField body 0 4)
  | .timeTrim => .timeTrim (toSigned16 (bodyField body 0 2))
  | .headroomLoad => .headroomLoad (bodyField body 0 1) (bodyFlag body 2) (pairs (body.drop 3))
  | .headroomOverride => .headroomOverride (bodyField body 0 2) (bodyField body 2 4)
  | .tripHoldoffSet => .tripHoldoffSet (bodyField body 0 2)
  | .dispatchCall =>
    .dispatchCall (bodyField body 0 2) (bodyField body 2 4) (bodyField body 6 4) (bodyField body 10 2) (bodyField body 12 2)
  | .dispatchRevise => .dispatchRevise (bodyField body 0 2) (bodyField body 2 2) (bodyField body 4 4)
  | .dispatchCancel => .dispatchCancel (bodyField body 0 2)
  | .offerQuery => .offerQuery (bodyField body 0 4) (bodyField body 4 4)
  | .resultQuery => .resultQuery (bodyField body 0 2) (bodyField body 2 1)
  | .planLoad =>
    .planLoad (bodyField body 0 2) (bodyField body 2 4) (bodyField body 6 2) (bodyFlag body 8) (bodyFlag body 9)
  | .planDelete => .planDelete (bodyField body 0 2)
  | .planQuery => .planQuery (bodyField body 0 1) (bodyField body 1 2)
  | .holdSet => .holdSet (bodyField body 0 2) (bodyField body 2 1)
  | .holdClear => .holdClear (bodyField body 0 2)
  | .parameterSet => .parameterSet (bodyField body 0 1) (bodyField body 1 2)
  | .parameterQuery => .parameterQuery (bodyField body 0 1)
  | .rotationSet => .rotationSet (bodyFlag body 1) ((body.drop 2).map BitVec.toNat)
  | .groupSet => .groupSet (bodyField body 0 1) (bodyField body 1 1)
  | .dockManual => .dockManual (bodyField body 0 1) (toSigned16 (bodyField body 1 2))
  | .dockAuto => .dockAuto (bodyField body 0 1)
  | .dockEnable => .dockEnable (bodyField body 0 1)
  | .dockDisable => .dockDisable (bodyField body 0 1)
  | .dockClear => .dockClear (bodyField body 0 1)
  | .netRestart => .netRestart
  | .echoTest => .echoTest (bodyField body 0 1) (bodyField body 1 1)
  | .echoQuery => .echoQuery
  | .queueQuery => .queueQuery (bodyField body 0 1) (bodyField body 1 1)
  | .siteQuery => .siteQuery
  | .clockQuery => .clockQuery
  | .linkQuery => .linkQuery
  | .dockQuery => .dockQuery (bodyField body 0 1)

/-- The checks a port makes before a request reaches its owner, in order (R183). -/
def readRequest (l : Link) (kind : Byte) (body : List Byte) : Except Reason Request :=
  match requestKindOf kind with
  | none => .error .unknownKind
  | some k =>
    if k.permitted l = false then .error .notPermitted
    else if body.length ≠ k.bodyLength body then .error .badLength
    else .ok (k.fields body)

/-- The owner of a request acts on it and forms the answer (R182 step 2). -/
def runRequest (l : Link) (q : Request) (s : State) : State × Answer :=
  match q with
  | .timeSet t => requestTimeSet t s
  | .timeTrim d => requestTimeTrim d s
  | .headroomLoad first daily values => requestHeadroomLoad first daily values s
  | .headroomOverride value expiry => requestHeadroomOverride value expiry s
  | .tripHoldoffSet seconds => requestTripHoldoff seconds s
  | .dispatchCall id start stop target minAccept => requestCall id start stop target minAccept s
  | .dispatchRevise id target stop => requestRevise id target stop s
  | .dispatchCancel id => requestCancel id s
  | .offerQuery start stop => requestOffer start stop s
  | .resultQuery id first => requestResult id first s
  | .planLoad vehicle departure energy afterEvent shortHoldOff =>
    requestPlanLoad vehicle departure energy afterEvent shortHoldOff s
  | .planDelete vehicle => requestPlanDelete vehicle s
  | .planQuery mode vehicle =>
    if mode = 0 then requestPlanOne vehicle s else if mode = 1 then requestPlanPage vehicle s else refuse .badLength s
  | .holdSet vehicle level =>
    if level = 2 then requestLockout vehicle s else if level = 1 then requestHold vehicle s else refuse .badLength s
  | .holdClear vehicle => requestHoldClear vehicle s
  | .parameterSet id value => requestParameterSet id value s
  | .parameterQuery id => requestParameterQuery id s
  | .rotationSet yieldOn entries => requestRotationSet yieldOn entries s
  | .groupSet dock group => requestGroupSet dock group s
  | .dockManual dock value => requestDockManual dock value s
  | .dockAuto dock => requestDockAuto dock s
  | .dockEnable dock => requestDockEnable dock s
  | .dockDisable dock => requestDockDisable dock s
  | .dockClear dock => requestDockClear dock s
  | .netRestart => requestNetRestart s
  | .echoTest dock count => requestEchoTest dock count s
  | .echoQuery => requestEchoQuery s
  | .queueQuery part first =>
    if part = 0 then requestQueueQuery s else if part = 1 then requestQueueParticipants first s else refuse .badLength s
  | .siteQuery => requestSiteQuery s
  | .clockQuery => requestClockQuery s
  | .linkQuery => requestLinkQuery l s
  | .dockQuery dock => requestDockQuery dock s

/-! ### Requests as bodies, and the commands that are requests -/

/-- The kind of a request (R189, R191, R194). -/
def Request.kind : Request → RequestKind
  | .timeSet _ => .timeSet
  | .timeTrim _ => .timeTrim
  | .headroomLoad _ _ _ => .headroomLoad
  | .headroomOverride _ _ => .headroomOverride
  | .tripHoldoffSet _ => .tripHoldoffSet
  | .dispatchCall _ _ _ _ _ => .dispatchCall
  | .dispatchRevise _ _ _ => .dispatchRevise
  | .dispatchCancel _ => .dispatchCancel
  | .offerQuery _ _ => .offerQuery
  | .resultQuery _ _ => .resultQuery
  | .planLoad _ _ _ _ _ => .planLoad
  | .planDelete _ => .planDelete
  | .planQuery _ _ => .planQuery
  | .holdSet _ _ => .holdSet
  | .holdClear _ => .holdClear
  | .parameterSet _ _ => .parameterSet
  | .parameterQuery _ => .parameterQuery
  | .rotationSet _ _ => .rotationSet
  | .groupSet _ _ => .groupSet
  | .dockManual _ _ => .dockManual
  | .dockAuto _ => .dockAuto
  | .dockEnable _ => .dockEnable
  | .dockDisable _ => .dockDisable
  | .dockClear _ => .dockClear
  | .netRestart => .netRestart
  | .echoTest _ _ => .echoTest
  | .echoQuery => .echoQuery
  | .queueQuery _ _ => .queueQuery
  | .siteQuery => .siteQuery
  | .clockQuery => .clockQuery
  | .linkQuery => .linkQuery
  | .dockQuery _ => .dockQuery

/-- The body a master sends for a request (R189, R190, R191, R194, R195). -/
def Request.body : Request → List Byte
  | .timeSet t => encodeNat 4 t
  | .timeTrim d => encodeInt 2 d
  | .headroomLoad first daily values =>
    encodeNat 1 first ++ encodeNat 1 values.length ++ encodeFlag daily ++ (values.map (encodeNat 2)).flatten
  | .headroomOverride value expiry => encodeNat 2 value ++ encodeNat 4 expiry
  | .tripHoldoffSet seconds => encodeNat 2 seconds
  | .dispatchCall id start stop target minAccept =>
    encodeNat 2 id ++ encodeNat 4 start ++ encodeNat 4 stop ++ encodeNat 2 target ++ encodeNat 2 minAccept
  | .dispatchRevise id target stop => encodeNat 2 id ++ encodeNat 2 target ++ encodeNat 4 stop
  | .dispatchCancel id => encodeNat 2 id
  | .offerQuery start stop => encodeNat 4 start ++ encodeNat 4 stop
  | .resultQuery id first => encodeNat 2 id ++ encodeNat 1 first
  | .planLoad vehicle departure energy afterEvent shortHoldOff =>
    encodeNat 2 vehicle ++ encodeNat 4 departure ++ encodeNat 2 energy ++ encodeFlag afterEvent ++ encodeFlag shortHoldOff
  | .planDelete vehicle => encodeNat 2 vehicle
  | .planQuery mode vehicle => encodeNat 1 mode ++ encodeNat 2 vehicle
  | .holdSet vehicle level => encodeNat 2 vehicle ++ encodeNat 1 level
  | .holdClear vehicle => encodeNat 2 vehicle
  | .parameterSet id value => encodeNat 1 id ++ encodeNat 2 value
  | .parameterQuery id => encodeNat 1 id
  | .rotationSet yieldOn entries =>
    encodeNat 1 entries.length ++ encodeFlag yieldOn ++ (entries.map (encodeNat 1)).flatten
  | .groupSet dock group => encodeNat 1 dock ++ encodeNat 1 group
  | .dockManual dock value => encodeNat 1 dock ++ encodeInt 2 value
  | .dockAuto dock => encodeNat 1 dock
  | .dockEnable dock => encodeNat 1 dock
  | .dockDisable dock => encodeNat 1 dock
  | .dockClear dock => encodeNat 1 dock
  | .netRestart => []
  | .echoTest dock count => encodeNat 1 dock ++ encodeNat 1 count
  | .echoQuery => []
  | .queueQuery part first => encodeNat 1 part ++ encodeNat 1 first
  | .siteQuery => []
  | .clockQuery => []
  | .linkQuery => []
  | .dockQuery dock => encodeNat 1 dock

/-- The fields of a request fit the fields of its body (R188, R189, R191, R194). -/
def Request.fits : Request → Bool
  | .timeSet t => fitsBytes 4 t
  | .timeTrim d => fitsSigned16 d
  | .headroomLoad first _ values => fitsBytes 1 first && decide (values.length ≤ 123) && values.all (fitsBytes 2)
  | .headroomOverride value expiry => fitsBytes 2 value && fitsBytes 4 expiry
  | .tripHoldoffSet seconds => fitsBytes 2 seconds
  | .dispatchCall id start stop target minAccept =>
    fitsBytes 2 id && fitsBytes 4 start && fitsBytes 4 stop && fitsBytes 2 target && fitsBytes 2 minAccept
  | .dispatchRevise id target stop => fitsBytes 2 id && fitsBytes 2 target && fitsBytes 4 stop
  | .dispatchCancel id => fitsBytes 2 id
  | .offerQuery start stop => fitsBytes 4 start && fitsBytes 4 stop
  | .resultQuery id first => fitsBytes 2 id && fitsBytes 1 first
  | .planLoad vehicle departure energy _ _ => fitsBytes 2 vehicle && fitsBytes 4 departure && fitsBytes 2 energy
  | .planDelete vehicle => fitsBytes 2 vehicle
  | .planQuery mode vehicle => fitsBytes 1 mode && fitsBytes 2 vehicle
  | .holdSet vehicle level => fitsBytes 2 vehicle && fitsBytes 1 level
  | .holdClear vehicle => fitsBytes 2 vehicle
  | .parameterSet id value => fitsBytes 1 id && fitsBytes 2 value
  | .parameterQuery id => fitsBytes 1 id
  | .rotationSet _ entries => decide (entries.length ≤ 247) && entries.all (fitsBytes 1)
  | .groupSet dock group => fitsBytes 1 dock && fitsBytes 1 group
  | .dockManual dock value => fitsBytes 1 dock && fitsSigned16 value
  | .dockAuto dock => fitsBytes 1 dock
  | .dockEnable dock => fitsBytes 1 dock
  | .dockDisable dock => fitsBytes 1 dock
  | .dockClear dock => fitsBytes 1 dock
  | .netRestart => true
  | .echoTest dock count => fitsBytes 1 dock && fitsBytes 1 count
  | .echoQuery => true
  | .queueQuery part first => fitsBytes 1 part && fitsBytes 1 first
  | .siteQuery => true
  | .clockQuery => true
  | .linkQuery => true
  | .dockQuery dock => fitsBytes 1 dock

/-- The link and the request of a command that is a request; none for the other commands (R189, R191, R194, log 9). -/
def requestOf : Instr → Option (Link × Request)
  | .timeSet t => some (.grid, .timeSet t)
  | .timeTrim d => some (.grid, .timeTrim d)
  | .headroomLoad first daily values => some (.grid, .headroomLoad first daily values)
  | .headroomOverride value expiry => some (.grid, .headroomOverride value expiry)
  | .tripHoldoffSet seconds => some (.grid, .tripHoldoffSet seconds)
  | .dispatchCall id start stop target minAccept => some (.grid, .dispatchCall id start stop target minAccept)
  | .dispatchRevise id target stop => some (.grid, .dispatchRevise id target stop)
  | .dispatchCancel id => some (.grid, .dispatchCancel id)
  | .offerQuery start stop => some (.grid, .offerQuery start stop)
  | .resultQuery id first => some (.grid, .resultQuery id first)
  | .planLoad vehicle departure energy afterEvent shortHoldOff =>
    some (.fleet, .planLoad vehicle departure energy afterEvent shortHoldOff)
  | .planDelete vehicle => some (.fleet, .planDelete vehicle)
  | .planQueryOne vehicle => some (.fleet, .planQuery 0 vehicle)
  | .planQueryPage vehicle => some (.fleet, .planQuery 1 vehicle)
  | .holdSetLockout vehicle => some (.fleet, .holdSet vehicle 2)
  | .holdSetHold vehicle => some (.fleet, .holdSet vehicle 1)
  | .holdClear vehicle => some (.fleet, .holdClear vehicle)
  | .parameterSet id value => some (.fleet, .parameterSet id value)
  | .parameterQuery id => some (.fleet, .parameterQuery id)
  | .rotationSet yieldOn entries => some (.fleet, .rotationSet yieldOn entries)
  | .groupSet dock group => some (.fleet, .groupSet dock group)
  | .dockManual dock value => some (.fleet, .dockManual dock value)
  | .dockAuto dock => some (.fleet, .dockAuto dock)
  | .dockEnable dock => some (.fleet, .dockEnable dock)
  | .dockDisable dock => some (.fleet, .dockDisable dock)
  | .dockClear dock => some (.fleet, .dockClear dock)
  | .netRestart => some (.fleet, .netRestart)
  | .echoTest dock count => some (.fleet, .echoTest dock count)
  | .echoQuery => some (.fleet, .echoQuery)
  | .queueQuery link => some (link, .queueQuery 0 0)
  | .queueQueryParticipants link first => some (link, .queueQuery 1 first)
  | .siteQuery link => some (link, .siteQuery)
  | .clockQuery link => some (link, .clockQuery)
  | .linkQuery link => some (link, .linkQuery)
  | .dockQuery link dock => some (link, .dockQuery dock)
  | .dockQuerySummary link => some (link, .dockQuery 0)
  | .deviceReset _ => none
  | .status _ _ _ => none
  | .echoReply _ _ _ => none
  | .foreignFrame => none
  | .frameInError _ => none
  | .transmitStart => none
  | .arbitrationLost => none
  | .transmitAttemptEnd _ => none
  | .recoveryTimerExpiry => none
  | .echoWaitExpiry => none
  | .reportTimeout _ => none
  | .silentGraceExpiry _ => none
  | .allocationTimerExpiry => none
  | .tripAssertion => none
  | .tripRelease => none
  | .holdoffExpiry => none
  | .uptimeSecond => none
  | .depotSecond => none
  | .dayRollover => none
  | .planDue _ => none
  | .eventStart => none
  | .eventEnd => none
  | .settlementBoundary => none
  | .halfHourBoundary => none
  | .overrideExpiry => none
  | .intervalAExpiry => none
  | .intervalBExpiry => none
  | .meterExportPulse => none
  | .meterImportPulse => none
  | .goodFrame _ _ _ => none
  | .badFrame _ => none
  | .linkGapTimeout _ => none
  | .quietTimerExpiry _ => none
  | .linkFrameSent _ => none
  | .unknownKindRequest _ _ => none
  | .syncByteBeginsFrame _ => none

end Sys2Proof.Machine
end

