-- ==== Sys2Proof/Machine/LinkPort.lean ====
section
/-! DEFINITION. The link frame on the line (R179) and the link ports: lock, request holding, transmitter (spec chapter 10). -/

namespace Sys2Proof.Machine

open Sys2Proof

/-! ### The frame on the line (R179) -/

/-- One bit into the check register: polynomial 0x1021, most significant bit first, no reflection (R179, R163). -/
def crcBit (reg : BitVec 16) (b : Bool) : BitVec 16 :=
  if reg.msb ^^ b then (reg <<< 1) ^^^ 0x1021#16 else reg <<< 1

/-- The bits of a byte, most significant first (R179). -/
def byteBits (b : Byte) : List Bool := [b[7], b[6], b[5], b[4], b[3], b[2], b[1], b[0]]

/-- The check over bits, initial value 0xFFFF (R179, R163). -/
def crcBits (l : List Bool) : BitVec 16 := l.foldl crcBit 0xFFFF#16

/-- The check over bytes (R179). -/
def crcBytes (l : List Byte) : BitVec 16 := crcBits (l.flatMap byteBits)

/-- The check field, high byte first (R179). -/
def checkBytes (c : BitVec 16) : List Byte := [(c >>> 8).setWidth 8, c.setWidth 8]

/-- LEN, KIND and BODY, the bytes the check covers (R179). -/
def LinkFrame.covered (f : LinkFrame) : List Byte := BitVec.ofNat 8 (f.body.length + 1) :: f.kind :: f.body

/-- A frame as its bytes go out: SYNC, LEN, KIND, BODY, CHECK (R179). -/
def LinkFrame.wire (f : LinkFrame) : List Byte := 0xC3 :: f.covered ++ checkBytes (crcBytes f.covered)

/-- What the receiver makes of the bytes of a frame that arrived without a stop-bit error and without a gap, SYNC first: the good
frame, or none for a bad one (R179). -/
def receiveWire : List Byte → Option LinkFrame
  | sync :: len :: kind :: rest =>
    let n := len.toNat
    if sync = 0xC3 ∧ 1 ≤ n ∧ n ≤ 250 ∧ rest.length = n + 1 then
      let f : LinkFrame := { kind := kind, body := rest.take (n - 1) }
      if rest.drop (n - 1) = checkBytes (crcBytes (len :: kind :: f.body)) then some f else none
    else none
  | _ => none

/-! ### Lock (R181) -/

/-- The uptime a quiet timer runs (R181). -/
def quietSeconds : Nat := 30

/-- A good frame at the lock: LOCKED, bad run 0, quiet timer restarted, the receiver between frames (R181, R179). -/
def Port.lockGood (uptime : Nat) (p : Port) : Port :=
  { p with lock := .locked, badRun := 0, quietTimer := some (expiryAfter uptime quietSeconds), withinFrame := false }

/-- A bad frame: counted; in LOCKED the fourth in a row returns the port to HUNT (R181); the receiver is between frames (R179). -/
def Port.takeBad (p : Port) : Port :=
  let q : Port := { p with badFrames := satAdd 255 p.badFrames 1, withinFrame := false }
  match p.lock with
  | .locked =>
    if 4 ≤ p.badRun + 1 then { q with lock := .hunt, badRun := 0, quietTimer := none } else { q with badRun := p.badRun + 1 }
  | .hunt => q
  | .quiet => q

/-! ### Requests through the port (R182, R184) -/

/-- A request is taken: the port's checks, then its owner; the state after and the answer frame (R182, R183). -/
def answerRequest (l : Link) (f : LinkFrame) (s : State) : State × LinkFrame :=
  match readRequest l f.kind f.body with
  | .error reason => (s, Answer.frame f.kind (.refused reason []))
  | .ok q =>
    let r := runRequest l q s
    (r.1, Answer.frame f.kind r.2)

/-- The answer of the first request of the holding is ready (R182 step 3). -/
def Port.setAnswer (a : LinkFrame) (p : Port) : Port :=
  { p with
    lastAnswer := some a
    holding :=
      match p.holding with
      | h :: rest => { h with answer := some a } :: rest
      | [] => [] }

/-- Take the first request of the holding when it has not been taken (R182). -/
def takeFirst (l : Link) (s : State) : State :=
  match (s.port l).holding with
  | h :: _ =>
    match h.answer with
    | some _ => s
    | none =>
      let r := answerRequest l h.request s
      r.1.mapPort l (Port.setAnswer r.2)
  | [] => s

/-- A frame enters the request holding, or is an overrun (R182). -/
def Port.hold (f : LinkFrame) (p : Port) : Port :=
  if p.holding.length < 2 then { p with holding := p.holding ++ [{ request := f, answer := none }] }
  else { p with overruns := satAdd 255 p.overruns 1 }

/-- A good frame (R179, R181, R182): lock, holding, the request taken at once when it is first, and the transmitter served. A frame
whose LEN would exceed 250 is no good frame and is taken as a bad one (R179). DESIGN CHOICE (log 41): a request that arrives after the end of the
answer to the only request held finds the holding empty, is the first in it and is taken at once (R182), though R187 calls it the second. -/
def takeGoodFrame (l : Link) (f : LinkFrame) (s : State) : State :=
  if f.body.length ≤ 249 then
    let s1 := s.mapPort l fun p => (p.lockGood s.dck.uptime).hold f
    (takeFirst l s1).mapPort l Port.serve
  else s.mapPort l Port.takeBad

/-- The end of a transmitted frame (R184): a finished answer lets its request leave, the next request is taken, and the next frame is
chosen. An idle transmitter has no end. -/
def frameSent (l : Link) (s : State) : State :=
  match (s.port l).sending with
  | none => s
  | some (.answer _) =>
    (takeFirst l (s.mapPort l fun p => { p with sending := none, holding := p.holding.tail })).mapPort l Port.serve
  | some (.notice _) => s.mapPort l fun p => { p with sending := none }.serve

/-! ### Request rows (log 9) -/

/-- The frame of a request (R189, R191, R194). -/
def Request.frame (q : Request) : LinkFrame := { kind := q.kind.code, body := q.body }

/-- A request being taken stands first in an empty holding; notices raised within the event wait behind its answer (R182, R184). -/
def Port.ask (f : LinkFrame) (p : Port) : Port :=
  match p.holding with
  | [] => { p with holding := [{ request := f, answer := none }] }
  | _ => p

/-- The owner's answer to the request just taken: it is ready to send and the transmitter is served (R182 step 3, R184). With another
request in the holding, answered before, the answer stays in `lastAnswer` alone (log 9). -/
def Port.reply (a : LinkFrame) (p : Port) : Port :=
  match p.holding with
  | h :: _ =>
    match h.answer with
    | none => (p.setAnswer a).serve
    | some _ => { p with lastAnswer := some a }
  | [] => { p with lastAnswer := some a }

/-- A request row: the request as it is taken on a link, its owner's effect, and its answer (R182, R184). DESIGN CHOICE: log 9. -/
def answered (l : Link) (f : LinkFrame) (owner : State → State × Answer) (s : State) : State :=
  let r := owner (s.mapPort l (Port.ask f))
  r.1.mapPort l (Port.reply (Answer.frame f.kind r.2))

end Sys2Proof.Machine
end

