-- ==== Sys2Proof/Machine/DockNetLine.lean ====
section
/-! DEFINITION. The Dock Net frame on its line (R163, R164, R167): fields, bits, check, stuffing, what a receiver makes of the levels, what
a sender makes of the levels it reads back, which of two frames wins the line, and the end of an attempt (R165). -/

namespace Sys2Proof.Machine

open Sys2Proof

/-- A Dock Net frame by its fields (R163). -/
structure NetWire where
  priority : Nat
  source : Nat
  destination : Nat
  payload : List Byte
  deriving DecidableEq, Repr

/-- The n low bits of a number, most significant first (R163). -/
def numberBits : Nat → Nat → List Bool
  | 0, _ => []
  | n + 1, v => v.testBit n :: numberBits n v

/-- The number carried by bits, most significant first (R163). -/
def bitsNumber (l : List Bool) : Nat := l.foldl (fun n b => 2 * n + b.toNat) 0

/-- The bits of priority, source and destination, over which arbitration runs (R163, R164). -/
def NetWire.headerBits (f : NetWire) : List Bool :=
  numberBits 2 f.priority ++ numberBits 6 f.source ++ numberBits 6 f.destination

/-- The bits from priority through payload, which the check covers (R163). -/
def NetWire.coveredBits (f : NetWire) : List Bool :=
  f.headerBits ++ numberBits 5 f.payload.length ++ f.payload.flatMap byteBits

/-- The check field, the register most significant bit first (R163). -/
def NetWire.checkBits (f : NetWire) : List Bool := numberBits 16 (crcBits f.coveredBits).toNat

/-- Start through check, before stuffing; the start bit is dominant, a bit of 0 (R163). -/
def NetWire.bits (f : NetWire) : List Bool := false :: f.coveredBits ++ f.checkBits

/-- Where a level stands in the frame its sender drives, as far as the sender's reading back of it goes (R163, R164): the start bit; priority,
source and destination; every later bit but the ack slot; the ack slot. -/
inductive Zone where
  | start
  | arbitration
  | body
  | ackSlot
  deriving DecidableEq, Repr

/-- Bit stuffing: after six consecutive bits of equal level one bit of the opposite level; `run` bits of level `last` have just been sent
(R163). DEDUCED: a stuffed bit stands in the zone of the bit that follows it, the one after the check in the body (log 38). -/
def stuffFrom : Bool → Nat → List (Bool × Zone) → List (Bool × Zone)
  | last, run, [] => if run = 6 then [(!last, .body)] else []
  | last, run, b :: l =>
    if run = 6 then
      (!last, b.2) :: b :: (if b.1 = !last then stuffFrom b.1 2 l else stuffFrom b.1 1 l)
    else b :: (if b.1 = last then stuffFrom b.1 (run + 1) l else stuffFrom b.1 1 l)

/-- The bits on the line from start through check (R163). -/
def stuff (l : List Bool) : List Bool := (stuffFrom true 0 (l.map fun b => (b, .body))).map Prod.fst

/-! ### The receiver, level by level (R163, R167) -/

/-- The receiver within the stuffed part of a frame: the level of the last bit, how many of that level have come in a row, and the levels
still to come. Where the list ends the line stays recessive. -/
structure LineReader where
  last : Bool
  run : Nat
  rest : List Bool
  deriving DecidableEq, Repr

/-- After six equal levels the next one is stuffed and removed; a seventh equal level is a form error (R163). -/
def LineReader.unstuffed (r : LineReader) : Option LineReader :=
  if r.run = 6 then
    if r.rest.headD true = r.last then none else some { last := !r.last, run := 1, rest := r.rest.tail }
  else some r

/-- The next n bits of the frame, stuffed bits removed; none at a form error (R163). -/
def LineReader.take : Nat → LineReader → Option (List Bool × LineReader)
  | 0, r => some ([], r)
  | n + 1, r =>
    match r.unstuffed with
    | none => none
    | some u =>
      let b := u.rest.headD true
      match LineReader.take n { last := b, run := if b = u.last then u.run + 1 else 1, rest := u.rest.tail } with
      | none => none
      | some q => some (b :: q.1, q.2)

/-- The bytes carried by bits, most significant bit of each first (R163). -/
def bitsBytes : Nat → List Bool → List Byte
  | 0, _ => []
  | n + 1, l => BitVec.ofNat 8 (bitsNumber (l.take 8)) :: bitsBytes n (l.drop 8)

/-- The frame whose bits from start through length are `head` and whose payload begins `payload` (R163). -/
def NetWire.ofBits (head payload : List Bool) : NetWire :=
  { priority := bitsNumber ((head.drop 1).take 2), source := bitsNumber ((head.drop 3).take 6),
    destination := bitsNumber ((head.drop 9).take 6), payload := bitsBytes (bitsNumber ((head.drop 15).take 5)) payload }

/-- The acceptance test of a frame received whole (R167). -/
def NetWire.accepted (f : NetWire) : Bool :=
  (decide (f.destination = 0) || decide (f.destination = 63)) && decide (1 ≤ f.source) && decide (f.source ≤ 40) &&
    ((decide (f.priority = 2) && decide (f.payload.length = 22)) || (decide (f.priority = 3) && decide (f.payload.length = 8)))

/-- What a receiver makes of the levels of a frame of another node (R163, R167): a frame in error, its ack slot driven or not, or a frame
received whole. -/
inductive LineFrame where
  | inError (ackDriven : Bool)
  | whole (f : NetWire)
  deriving DecidableEq, Repr

/-- The DNC drives the ack slot of an accepted frame that is no broadcast (R167). -/
def NetWire.acked (f : NetWire) : Bool := f.accepted && decide (f.destination = 0)

/-- A frame of another node received from its levels, start bit first (R163, R167): a form error or a check error ends it; once the check
is found equal the acceptance test decides the ack slot; and a dominant level in the ack delimiter or the end is a form error still. -/
def receiveLevels (levels : List Bool) : LineFrame :=
  match LineReader.take 20 { last := true, run := 0, rest := levels } with
  | none => .inError false
  | some (head, r) =>
    let bits := 8 * bitsNumber ((head.drop 15).take 5)
    if 192 < bits then .inError false
    else
      match LineReader.take (bits + 16) r with
      | none => .inError false
      | some (rest, r) =>
        let f := NetWire.ofBits head rest
        if rest.drop bits ≠ f.checkBits then .inError false
        else
          match r.unstuffed with
          | none => .inError false
          | some r => if ((r.rest.drop 1).take 9).all id then .whole f else .inError f.acked

/-- The command that a frame of another node on the line comes to (R167). -/
def LineFrame.command : LineFrame → Instr
  | .inError ackDriven => .frameInError ackDriven
  | .whole f =>
    if f.accepted then
      if f.priority = 2 then .status f.source (decide (f.destination = 63)) f.payload
      else .echoReply f.source (decide (f.destination = 63)) f.payload
    else .foreignFrame

/-- The line is idle once its last 11 levels, the latest first, are recessive (R163). -/
def lineIdle (latestFirst : List Bool) : Bool := decide (11 ≤ latestFirst.length) && (latestFirst.take 11).all id

/-- Dominance level by level: the first position at which the headers differ decides, and the one that drives the dominant level (a
bit of 0) goes on (R163, R164). -/
def beatsOn : List Bool → List Bool → Bool
  | a :: l, b :: m => if a = b then beatsOn l m else !a
  | _, _ => false

/-- The frame that wins the line against another that starts with it (R164). -/
def NetWire.beats (f g : NetWire) : Bool := beatsOn f.headerBits g.headerBits

/-- A frame of the coordinator as it goes out, source 0 (R164, R172, R173, R176). -/
def NetFrame.wire : NetFrame → NetWire
  | .cease => { priority := 0, source := 0, destination := 63, payload := [] }
  | .setpoint f =>
    { priority := 1, source := 0, destination := f.dock.addr, payload := encodeInt 2 f.value ++ encodeFlag f.phase }
  | .echo e => { priority := 3, source := 0, destination := e.dock, payload := echoPayload e.sequence }

/-- The levels the DNC drives on DNTX for a frame, with their zones: start through check stuffed, then ack slot, ack delimiter and end,
recessive (R163). -/
def NetFrame.driven (f : NetFrame) : List (Bool × Zone) :=
  stuffFrom true 0 ((false, .start) :: f.wire.headerBits.map (·, .arbitration) ++
    (f.wire.bits.drop 15).map (·, .body)) ++ (true, .ackSlot) :: List.replicate 9 (true, .body)

/-- The levels alone (R163). -/
def NetFrame.line (f : NetFrame) : List Bool := f.driven.map Prod.fst

/-- How an attempt ends, from the levels driven and the levels read back (R163, R164, R165): driving recessive and reading dominant in
priority, source or destination loses the arbitration; driving dominant and reading recessive there, or any difference after the
destination outside the ack slot, is a transmit error; else the frame goes out whole with its ack slot as read. The rule names no
error at the start bit. A check over read-back bits can differ only where one of them does, so it adds no case. -/
def attemptOutcome (ackDominant : Bool) : List (Bool × Zone) → List Bool → Instr
  | [], _ => .transmitAttemptEnd (.wholeFrame ackDominant)
  | (d, z) :: l, read =>
    let r := read.headD true
    match z with
    | .start => attemptOutcome ackDominant l read.tail
    | .ackSlot => attemptOutcome (!r) l read.tail
    | .arbitration =>
      if r = d then attemptOutcome ackDominant l read.tail
      else if d then .arbitrationLost
      else .transmitAttemptEnd .transmitError
    | .body => if r = d then attemptOutcome ackDominant l read.tail else .transmitAttemptEnd .transmitError

/-- The command that an attempt with a frame comes to, from the levels read back on DNRX (R163 to R165). -/
def NetFrame.attempt (f : NetFrame) (read : List Bool) : Instr := attemptOutcome false f.driven read

/-! ### A frame received whole (R167) and the end of an attempt (R165) -/

/-- An accepted STATUS goes to the DTB, with its source as the dock address; an accepted ECHO to the echo test (R167). -/
def handFrame (f : NetWire) (s : State) : State :=
  if f.priority = 2 then
    match dockOfAddr f.source, statusOfPayload f.payload with
    | some d, some q => takeStatus d q s
    | _, _ => s
  else s.mapDnc (Dnc.echoReceive f.source f.payload)

/-- A frame of another node received whole (R167); in NET-OFF nothing is received (R170). -/
def receiveFrame (f : NetWire) (s : State) : State :=
  if s.dnc.net = .off then s
  else if f.accepted then handFrame f (receiveAccepted (decide (f.destination = 63)) s)
  else receiveForeign s

/-- What a whole attempt reports (R165): a SETPOINT's end to the DTB, withdrawn or not (R173); an ECHO's end to the echo test unless
it was withdrawn (R177); a broadcast to no block. -/
def reportEnd (t : Transmission) (acked : Bool) (s : State) : State :=
  match t.frame with
  | .cease => s
  | .setpoint f => setpointEnded f.dock f.phase acked s
  | .echo _ => if t.withdrawn then s else s.mapDnc (if acked then Dnc.echoStartWait else Dnc.echoMiss)

/-- The end of an attempt that was not lost in arbitration (R165): TEC, net state, then the frame returned or reported. With no frame
in transmission there is no attempt to end. -/
def endAttempt (how : AttemptEnd) (s : State) : State :=
  match s.dnc.sending with
  | none => s
  | some t =>
    match how with
    | .transmitError =>
      (settleNet .tecCount (s.mapDnc fun n => { n with tec := n.tec + 8 })).mapDnc Dnc.returnFrame
    | .wholeFrame acked =>
      let s1 := settleNet .tecCount (s.mapDnc fun n => { n with tec := n.tec - 1 })
      reportEnd t acked (s1.mapDnc fun n => { n with sending := none })

end Sys2Proof.Machine
end

