-- ==== Sys2Proof/Machine/TimeBase.lean ====
section
/-! DEFINITION. The 32.768 kHz time base (R155, R156, R176): the whole seconds as they are taken, and one period of the time base,
which is what the block does when no command waits (log 3). -/

namespace Sys2Proof.Machine

open Sys2Proof

/-- The periods of the time base in one second (R155, R156). -/
def periodsPerSecond : Nat := 32768

/-- An uptime second, its owners taken in a free order (R155, log 5). -/
def takeUptimeSecond (s : State) : State := advanceUptime (drawOrder UptimeOwner.all s) s.drawn

/-- A counted depot second, its moments taken in a free order (R156, R160, log 5). A cancel or a revise that waits next may be taken before the
end or the start of the record it names (R69, R72, log 35). -/
def takeDepotSecond (s : State) : State :=
  countDepotSecond (eventGoingFirst s) (drawOrder Moment.all s) s.drawn

/-- The echo wait expires while it runs: the sequence is counted missed and the test goes on (R176). -/
def expireEchoWait (s : State) : State :=
  match s.dnc.echo.wait with
  | some _ => s.mapDnc Dnc.echoMiss
  | none => s

/-- What a period of the time base can bring about. -/
inductive PeriodEvent where
  | uptimeSecond
  | depotSecond
  | echoWait
  deriving DecidableEq, Repr

def PeriodEvent.all : List PeriodEvent := [.uptimeSecond, .depotSecond, .echoWait]

/-- The dividers and a running echo wait move on by one period. The depot divider is counted only while the clock is RUNNING and
below 4,000,000,000 (R155, R156, R176). -/
def countPeriod (s : State) : State :=
  { s with
    dck.uptimeDivider := s.dck.uptimeDivider + 1
    dck.depotDivider :=
      if s.dck.running = true ∧ s.dck.depotTime < depotTimeMax then s.dck.depotDivider + 1 else s.dck.depotDivider
    dnc.echo.wait := s.dnc.echo.wait.map fun n => n - 1 }

/-- A divider has reached 32768, or the echo wait has run out (R155, R156, R176). -/
def PeriodEvent.due (s : State) : PeriodEvent → Bool
  | .uptimeSecond => decide (periodsPerSecond ≤ s.dck.uptimeDivider)
  | .depotSecond => decide (periodsPerSecond ≤ s.dck.depotDivider)
  | .echoWait => decide (s.dnc.echo.wait = some 0)

/-- One event of a period, when it is still due (R177: an abort stops the wait). -/
def takePeriodEvent (s : State) (e : PeriodEvent) : State :=
  if e.due s then
    match e with
    | .uptimeSecond => takeUptimeSecond s
    | .depotSecond => takeDepotSecond s
    | .echoWait => expireEchoWait s
  else s

/-- One period of the time base; what comes due in it is taken in a free order (R161, log 5). DESIGN CHOICE (log 36): with the depot second taken
first, a pass that it brings is at the uptime before the advance, restarts the allocation timer (R78), and the timer does not come due at the
advance, though R80 names a timer expiry and a half-hour boundary of one uptime second as each running its own pass. -/
def takePeriod (s : State) : State :=
  let s1 := countPeriod s
  match PeriodEvent.all.filter (PeriodEvent.due s1) with
  | [] => s1
  | due => (freeOrder s1.draws due).foldl takePeriodEvent s1.drawn

end Sys2Proof.Machine
end

