-- ==== Sys2Proof/Machine/DockCommands.lean ====
section
/-! DEFINITION. The commands of the Dock Net and of the Dock Table's timers, one meaning each (spec chapters 1 and 9). -/

namespace Sys2Proof.Machine

open Sys2Proof

/-- DEVICE_RESET: every block takes its reset values, the trip state from the level of TRIPn (R2, R30, R52, R77, R105, R117, R126,
R142, R152, R154, R162, R180). The model's own queue and draws are kept (log 29). -/
def execDeviceReset (tripLow : Bool) (s : State) : Host.Outcome State Fault Refusal :=
  .next { State.afterReset tripLow with pending := s.pending, draws := s.draws }

/-- STATUS: a STATUS received whole, to 0 or to 63 (R167, R168, R5). -/
def execStatus (source : Nat) (broadcast : Bool) (payload : List Byte) (s : State) : Host.Outcome State Fault Refusal :=
  .next (receiveFrame { priority := 2, source := source, destination := if broadcast then 63 else 0, payload := payload } s)

/-- ECHO_REPLY: an ECHO received whole (R167, R176). -/
def execEchoReply (source : Nat) (broadcast : Bool) (payload : List Byte) (s : State) : Host.Outcome State Fault Refusal :=
  .next (receiveFrame { priority := 3, source := source, destination := if broadcast then 63 else 0, payload := payload } s)

/-- FOREIGN_FRAME: a frame received whole but not accepted (R167). -/
def execForeignFrame (s : State) : Host.Outcome State Fault Refusal :=
  .next (if s.dnc.net = .off then s else receiveForeign s)

/-- FRAME_IN_ERROR: a frame received in error, its ack slot driven before the error or not (R167, log 18). -/
def execFrameInError (s : State) (ackDriven : Bool := false) : Host.Outcome State Fault Refusal :=
  .next (if s.dnc.net = .off then s else receiveInError ackDriven s)

/-- TRANSMIT_START: the line is idle and an attempt starts with the head frame (R164). -/
def execTransmitStart (s : State) : Host.Outcome State Fault Refusal := .next (s.mapDnc Dnc.startAttempt)

/-- ARBITRATION_LOST: the attempt is counted nowhere and its frame returned or dropped (R164, R166). -/
def execArbitrationLost (s : State) : Host.Outcome State Fault Refusal := .next (s.mapDnc Dnc.returnFrame)

/-- TRANSMIT_ATTEMPT_END: an attempt not lost in arbitration ends (R165). -/
def execTransmitAttemptEnd (how : AttemptEnd) (s : State) : Host.Outcome State Fault Refusal := .next (endAttempt how s)

/-- RECOVERY_TIMER_EXPIRY: in NET-OFF, when the timer is due (R170, log 7). -/
def execRecoveryTimerExpiry (s : State) : Host.Outcome State Fault Refusal := .next (expireRecovery s)

/-- ECHO_WAIT_EXPIRY: a running echo wait expires (R176, log 17). -/
def execEchoWaitExpiry (s : State) : Host.Outcome State Fault Refusal := .next (expireEchoWait s)

/-- REPORT_TIMEOUT of a dock, when it is due (R19, log 7). -/
def execReportTimeout (dock : Nat) (s : State) : Host.Outcome State Fault Refusal :=
  .next (match dockOfAddr dock with
    | some d => reportTimeout d s
    | none => s)

/-- SILENT_GRACE_EXPIRY of a dock, when it is due (R22, log 7). -/
def execSilentGraceExpiry (dock : Nat) (s : State) : Host.Outcome State Fault Refusal :=
  .next (match dockOfAddr dock with
    | some d => silentGrace d s
    | none => s)

end Sys2Proof.Machine
end

