-- ==== Sys2Proof/Machine/FleetRequests.lean ====
section
/-! DEFINITION. The commands of the Fleet Link set, one meaning each: the request as its owner takes it, and its answer (R191,
log 9). -/

namespace Sys2Proof.Machine

open Sys2Proof

/-- PLAN_LOAD (R31). -/
def execPlanLoad (vehicle departure energy : Nat) (afterEvent shortHoldOff : Bool) (s : State) : Host.Outcome State Fault Refusal :=
  .next (answered .fleet (Request.frame (.planLoad vehicle departure energy afterEvent shortHoldOff))
    (requestPlanLoad vehicle departure energy afterEvent shortHoldOff) s)

/-- PLAN_DELETE (R35). -/
def execPlanDelete (vehicle : Nat) (s : State) : Host.Outcome State Fault Refusal :=
  .next (answered .fleet (Request.frame (.planDelete vehicle)) (requestPlanDelete vehicle) s)

/-- PLAN_QUERY_ONE: PLAN QUERY mode 0 (R192, R29). -/
def execPlanQueryOne (vehicle : Nat) (s : State) : Host.Outcome State Fault Refusal :=
  .next (answered .fleet (Request.frame (.planQuery 0 vehicle)) (requestPlanOne vehicle) s)

/-- PLAN_QUERY_PAGE: PLAN QUERY mode 1 (R192). -/
def execPlanQueryPage (vehicle : Nat) (s : State) : Host.Outcome State Fault Refusal :=
  .next (answered .fleet (Request.frame (.planQuery 1 vehicle)) (requestPlanPage vehicle) s)

/-- HOLD_SET_LOCKOUT: HOLD SET with level LOCKOUT (R37). -/
def execHoldSetLockout (vehicle : Nat) (s : State) : Host.Outcome State Fault Refusal :=
  .next (answered .fleet (Request.frame (.holdSet vehicle 2)) (requestLockout vehicle) s)

/-- HOLD_SET_HOLD: HOLD SET with level HOLD (R38). -/
def execHoldSetHold (vehicle : Nat) (s : State) : Host.Outcome State Fault Refusal :=
  .next (answered .fleet (Request.frame (.holdSet vehicle 1)) (requestHold vehicle) s)

/-- HOLD_CLEAR (R39). -/
def execHoldClear (vehicle : Nat) (s : State) : Host.Outcome State Fault Refusal :=
  .next (answered .fleet (Request.frame (.holdClear vehicle)) (requestHoldClear vehicle) s)

/-- PARAMETER_SET (R193). -/
def execParameterSet (id value : Nat) (s : State) : Host.Outcome State Fault Refusal :=
  .next (answered .fleet (Request.frame (.parameterSet id value)) (requestParameterSet id value) s)

/-- PARAMETER_QUERY (R193). -/
def execParameterQuery (id : Nat) (s : State) : Host.Outcome State Fault Refusal :=
  .next (answered .fleet (Request.frame (.parameterQuery id)) (requestParameterQuery id) s)

/-- ROTATION_SET (R113, R114). -/
def execRotationSet (yieldOn : Bool) (entries : List Nat) (s : State) : Host.Outcome State Fault Refusal :=
  .next (answered .fleet (Request.frame (.rotationSet yieldOn entries)) (requestRotationSet yieldOn entries) s)

/-- GROUP_SET (R28). -/
def execGroupSet (dock group : Nat) (s : State) : Host.Outcome State Fault Refusal :=
  .next (answered .fleet (Request.frame (.groupSet dock group)) (requestGroupSet dock group) s)

/-- DOCK_MANUAL (R26). -/
def execDockManual (dock : Nat) (value : Int) (s : State) : Host.Outcome State Fault Refusal :=
  .next (answered .fleet (Request.frame (.dockManual dock value)) (requestDockManual dock value) s)

/-- DOCK_AUTO (R27). -/
def execDockAuto (dock : Nat) (s : State) : Host.Outcome State Fault Refusal :=
  .next (answered .fleet (Request.frame (.dockAuto dock)) (requestDockAuto dock) s)

/-- DOCK_ENABLE (R23). -/
def execDockEnable (dock : Nat) (s : State) : Host.Outcome State Fault Refusal :=
  .next (answered .fleet (Request.frame (.dockEnable dock)) (requestDockEnable dock) s)

/-- DOCK_DISABLE (R24). -/
def execDockDisable (dock : Nat) (s : State) : Host.Outcome State Fault Refusal :=
  .next (answered .fleet (Request.frame (.dockDisable dock)) (requestDockDisable dock) s)

/-- DOCK_CLEAR (R25). -/
def execDockClear (dock : Nat) (s : State) : Host.Outcome State Fault Refusal :=
  .next (answered .fleet (Request.frame (.dockClear dock)) (requestDockClear dock) s)

/-- NET_RESTART (R171). -/
def execNetRestart (s : State) : Host.Outcome State Fault Refusal :=
  .next (answered .fleet (Request.frame .netRestart) (requestNetRestart) s)

/-- ECHO_TEST (R175). -/
def execEchoTest (dock count : Nat) (s : State) : Host.Outcome State Fault Refusal :=
  .next (answered .fleet (Request.frame (.echoTest dock count)) (requestEchoTest dock count) s)

/-- ECHO_QUERY (R177). -/
def execEchoQuery (s : State) : Host.Outcome State Fault Refusal :=
  .next (answered .fleet (Request.frame .echoQuery) (requestEchoQuery) s)

end Sys2Proof.Machine
end

