-- ==== Sys2Proof/Machine/GridRequests.lean ====
section
/-! DEFINITION. The commands of the Grid Link set, one meaning each: the request as its owner takes it, and its answer (R189, log 9). -/

namespace Sys2Proof.Machine

open Sys2Proof

/-- TIME_SET (R157). -/
def execTimeSet (t : Nat) (s : State) : Host.Outcome State Fault Refusal :=
  .next (answered .grid (Request.frame (.timeSet t)) (requestTimeSet t) s)

/-- TIME_TRIM (R158). -/
def execTimeTrim (d : Int) (s : State) : Host.Outcome State Fault Refusal :=
  .next (answered .grid (Request.frame (.timeTrim d)) (requestTimeTrim d) s)

/-- HEADROOM_LOAD (R118). -/
def execHeadroomLoad (first : Nat) (daily : Bool) (values : List Nat) (s : State) : Host.Outcome State Fault Refusal :=
  .next (answered .grid (Request.frame (.headroomLoad first daily values)) (requestHeadroomLoad first daily values) s)

/-- HEADROOM_OVERRIDE (R120). -/
def execHeadroomOverride (value expiry : Nat) (s : State) : Host.Outcome State Fault Refusal :=
  .next (answered .grid (Request.frame (.headroomOverride value expiry)) (requestHeadroomOverride value expiry) s)

/-- TRIP_HOLDOFF_SET (R125). -/
def execTripHoldoffSet (seconds : Nat) (s : State) : Host.Outcome State Fault Refusal :=
  .next (answered .grid (Request.frame (.tripHoldoffSet seconds)) (requestTripHoldoff seconds) s)

/-- DISPATCH_CALL (R55 to R60, R190). -/
def execDispatchCall (id start stop target minAccept : Nat) (s : State) : Host.Outcome State Fault Refusal :=
  .next (answered .grid (Request.frame (.dispatchCall id start stop target minAccept))
    (requestCall id start stop target minAccept) s)

/-- DISPATCH_REVISE (R70, R71). -/
def execDispatchRevise (id target stop : Nat) (s : State) : Host.Outcome State Fault Refusal :=
  .next (answered .grid (Request.frame (.dispatchRevise id target stop)) (requestRevise id target stop) s)

/-- DISPATCH_CANCEL (R69). -/
def execDispatchCancel (id : Nat) (s : State) : Host.Outcome State Fault Refusal :=
  .next (answered .grid (Request.frame (.dispatchCancel id)) (requestCancel id) s)

/-- OFFER_QUERY (R64). -/
def execOfferQuery (start stop : Nat) (s : State) : Host.Outcome State Fault Refusal :=
  .next (answered .grid (Request.frame (.offerQuery start stop)) (requestOffer start stop) s)

/-- RESULT_QUERY (R153, R195). -/
def execResultQuery (id first : Nat) (s : State) : Host.Outcome State Fault Refusal :=
  .next (answered .grid (Request.frame (.resultQuery id first)) (requestResult id first) s)

end Sys2Proof.Machine
end

