-- ==== Sys2Proof/Machine/LinkCommands.lean ====
section
/-! DEFINITION. The commands of the link ports, one meaning each (spec chapter 10). -/

namespace Sys2Proof.Machine

open Sys2Proof

/-- GOOD_FRAME on a link (R179, R181, R182): a whole good frame (log 37). -/
def execGoodFrame (link : Link) (kind : Byte) (body : List Byte) (s : State) : Host.Outcome State Fault Refusal :=
  .next (takeGoodFrame link { kind := kind, body := body } s)

/-- BAD_FRAME on a link (R179, R181). DESIGN CHOICE (log 37): it stands for a whole bad frame, from its SYNC byte to where it ends, and is
taken whether or not SYNC_BYTE_BEGINS_FRAME was commanded before it. -/
def execBadFrame (link : Link) (s : State) : Host.Outcome State Fault Refusal := .next (s.mapPort link Port.takeBad)

/-- LINK_GAP_TIMEOUT: more than 20 ms without a byte inside a frame ends it as a bad frame; between frames no gap is measured
(R179). -/
def execLinkGapTimeout (link : Link) (s : State) : Host.Outcome State Fault Refusal :=
  .next (s.mapPort link fun p => if p.withinFrame then p.takeBad else p)

/-- QUIET_TIMER_EXPIRY on a link, when the timer is due in LOCKED (R181, log 7). -/
def execQuietTimerExpiry (link : Link) (s : State) : Host.Outcome State Fault Refusal :=
  .next (s.mapPort link (Port.expireQuiet s.dck.uptime))

/-- LINK_FRAME_SENT: the transmitter of a link has sent its frame in full (R184, R182). -/
def execLinkFrameSent (link : Link) (s : State) : Host.Outcome State Fault Refusal := .next (frameSent link s)

/-- UNKNOWN_KIND_REQUEST: a taken request of a kind outside the catalogue is answered REFUSED UNKNOWN-KIND, kind + 0x80 modulo 256
(R183, R197). A kind of the catalogue makes no such request (log 32); its body, which no check reads, is taken as empty. -/
def execUnknownKindRequest (link : Link) (kind : Byte) (s : State) : Host.Outcome State Fault Refusal :=
  .next (match requestKindOf kind with
    | none => answered link { kind := kind, body := [] } (refuse .unknownKind) s
    | some _ => s)

/-- SYNC_BYTE_BEGINS_FRAME: between frames a SYNC byte begins a frame; within a frame it is data (R179). -/
def execSyncByteBeginsFrame (link : Link) (s : State) : Host.Outcome State Fault Refusal :=
  .next (s.mapPort link fun p => { p with withinFrame := true })

end Sys2Proof.Machine
end

