-- ==== Sys2Proof/Machine/SharedRequests.lean ====
section
/-! DEFINITION. The commands of the shared set, one meaning each: the query as it is taken on a link, and its answer (R194, log 9). -/

namespace Sys2Proof.Machine

open Sys2Proof

/-- QUEUE_QUERY: part 0 (R194). -/
def execQueueQuery (link : Link) (s : State) : Host.Outcome State Fault Refusal :=
  .next (answered link (Request.frame (.queueQuery 0 0)) (requestQueueQuery) s)

/-- QUEUE_QUERY_PARTICIPANTS: QUEUE QUERY part 1 (R194). -/
def execQueueQueryParticipants (link : Link) (first : Nat) (s : State) : Host.Outcome State Fault Refusal :=
  .next (answered link (Request.frame (.queueQuery 1 first)) (requestQueueParticipants first) s)

/-- SITE_QUERY (R194). -/
def execSiteQuery (link : Link) (s : State) : Host.Outcome State Fault Refusal :=
  .next (answered link (Request.frame .siteQuery) (requestSiteQuery) s)

/-- CLOCK_QUERY (R154, R194). -/
def execClockQuery (link : Link) (s : State) : Host.Outcome State Fault Refusal :=
  .next (answered link (Request.frame .clockQuery) (requestClockQuery) s)

/-- LINK_QUERY (R186). -/
def execLinkQuery (link : Link) (s : State) : Host.Outcome State Fault Refusal :=
  .next (answered link (Request.frame .linkQuery) (requestLinkQuery link) s)

/-- DOCK_QUERY of one dock (R194). -/
def execDockQuery (link : Link) (dock : Nat) (s : State) : Host.Outcome State Fault Refusal :=
  .next (answered link (Request.frame (.dockQuery dock)) (requestDockQuery dock) s)

/-- DOCK_QUERY_SUMMARY: DOCK QUERY of dock 0 (R194). -/
def execDockQuerySummary (link : Link) (s : State) : Host.Outcome State Fault Refusal :=
  .next (answered link (Request.frame (.dockQuery 0)) (requestDockQuery 0) s)

end Sys2Proof.Machine
end

