-- ==== Sys2Proof/Machine/SiteCommands.lean ====
section
/-! DEFINITION. The commands of the allocation timer, the trip line, the clock's moments, the rotation timers and the revenue meter,
one meaning each (spec chapters 2 to 8). -/

namespace Sys2Proof.Machine

open Sys2Proof

/-- ALLOCATION_TIMER_EXPIRY, when it is due: a pass (R78, log 7). -/
def execAllocationTimerExpiry (s : State) : Host.Outcome State Fault Refusal := .next (expireAllocation s)

/-- TRIP_ASSERTION of the filtered line (R127). -/
def execTripAssertion (s : State) : Host.Outcome State Fault Refusal := .next (assertTrip s)

/-- TRIP_RELEASE of the filtered line (R129). -/
def execTripRelease (s : State) : Host.Outcome State Fault Refusal := .next (releaseTrip s)

/-- HOLDOFF_EXPIRY, when it is due (R130, log 7). -/
def execHoldoffExpiry (s : State) : Host.Outcome State Fault Refusal := .next (expireHoldoff s)

/-- UPTIME_SECOND: uptime advances by one second (R155, R133, log 4). -/
def execUptimeSecond (s : State) : Host.Outcome State Fault Refusal := .next (takeUptimeSecond s)

/-- DEPOT_SECOND: a counted depot second (R156, R160); a cancel or a revise that waits next may come before its end and start (R69, R72, log 35). -/
def execDepotSecond (s : State) : Host.Outcome State Fault Refusal := .next (takeDepotSecond s)

/-- DAY_ROLLOVER: the effects of an announced rollover; none is announced while the clock is UNSET (R159, R133, log 8). -/
def execDayRollover (s : State) : Host.Outcome State Fault Refusal := .next (if s.dck.running then rollover s else s)

/-- PLAN_DUE: the DUE check of one vehicle's entry (R32). -/
def execPlanDue (vehicle : Nat) (s : State) : Host.Outcome State Fault Refusal := .next (checkDueOf vehicle s)

/-- EVENT_START, when the first PENDING record's start is reached (R65, R66, log 7). -/
def execEventStart (s : State) : Host.Outcome State Fault Refusal := .next (startIfReached s)

/-- EVENT_END, when the ACTIVE record's end is reached: cause COMPLETE (R67, R68, log 28). -/
def execEventEnd (s : State) : Host.Outcome State Fault Refusal := .next (endIfReached s)

/-- SETTLEMENT_BOUNDARY, when the boundary of the interval in progress is reached (R148, log 7). -/
def execSettlementBoundary (s : State) : Host.Outcome State Fault Refusal := .next (settlementIfReached s)

/-- HALF_HOUR_BOUNDARY: the SLU asks for a pass; there is none while the clock is UNSET (R123, log 8). -/
def execHalfHourBoundary (s : State) : Host.Outcome State Fault Refusal := .next (if s.dck.running then runPass s else s)

/-- OVERRIDE_EXPIRY, when the expiry of a present override is reached (R121, log 7). -/
def execOverrideExpiry (s : State) : Host.Outcome State Fault Refusal := .next (overrideIfReached s)

/-- INTERVAL_A_EXPIRY, when the A timer is due in WORK (R109, R110, log 7). -/
def execIntervalAExpiry (s : State) : Host.Outcome State Fault Refusal := .next (expireIntervalA s)

/-- INTERVAL_B_EXPIRY, when the B timer is due in REST (R111, log 7). -/
def execIntervalBExpiry (s : State) : Host.Outcome State Fault Refusal := .next (expireIntervalB s)

/-- METER_EXPORT_PULSE: a rising edge on MXP (R140, R141). -/
def execMeterExportPulse (s : State) : Host.Outcome State Fault Refusal := .next (meterExportEdge s)

/-- METER_IMPORT_PULSE: a rising edge on MIP (R140, R141). -/
def execMeterImportPulse (s : State) : Host.Outcome State Fault Refusal := .next (meterImportEdge s)

end Sys2Proof.Machine
end

