-- ==== Sys2Proof/Machine/Dispatch.lean ====
section
/-! DEFINITION. The meaning of every command, one arm each. -/

namespace Sys2Proof.Machine

open Sys2Proof

def exec (i : Instr) (s : State) : Host.Outcome State Fault Refusal :=
  match i with
  | .deviceReset tripLow => Sys2Proof.Machine.execDeviceReset tripLow s
  | .status source broadcast payload => Sys2Proof.Machine.execStatus source broadcast payload s
  | .echoReply source broadcast payload => Sys2Proof.Machine.execEchoReply source broadcast payload s
  | .foreignFrame => Sys2Proof.Machine.execForeignFrame s
  | .frameInError ackDriven => Sys2Proof.Machine.execFrameInError s ackDriven
  | .transmitStart => Sys2Proof.Machine.execTransmitStart s
  | .arbitrationLost => Sys2Proof.Machine.execArbitrationLost s
  | .transmitAttemptEnd how => Sys2Proof.Machine.execTransmitAttemptEnd how s
  | .recoveryTimerExpiry => Sys2Proof.Machine.execRecoveryTimerExpiry s
  | .echoWaitExpiry => Sys2Proof.Machine.execEchoWaitExpiry s
  | .reportTimeout dock => Sys2Proof.Machine.execReportTimeout dock s
  | .silentGraceExpiry dock => Sys2Proof.Machine.execSilentGraceExpiry dock s
  | .allocationTimerExpiry => Sys2Proof.Machine.execAllocationTimerExpiry s
  | .tripAssertion => Sys2Proof.Machine.execTripAssertion s
  | .tripRelease => Sys2Proof.Machine.execTripRelease s
  | .holdoffExpiry => Sys2Proof.Machine.execHoldoffExpiry s
  | .uptimeSecond => Sys2Proof.Machine.execUptimeSecond s
  | .depotSecond => Sys2Proof.Machine.execDepotSecond s
  | .dayRollover => Sys2Proof.Machine.execDayRollover s
  | .planDue vehicle => Sys2Proof.Machine.execPlanDue vehicle s
  | .eventStart => Sys2Proof.Machine.execEventStart s
  | .eventEnd => Sys2Proof.Machine.execEventEnd s
  | .settlementBoundary => Sys2Proof.Machine.execSettlementBoundary s
  | .halfHourBoundary => Sys2Proof.Machine.execHalfHourBoundary s
  | .overrideExpiry => Sys2Proof.Machine.execOverrideExpiry s
  | .intervalAExpiry => Sys2Proof.Machine.execIntervalAExpiry s
  | .intervalBExpiry => Sys2Proof.Machine.execIntervalBExpiry s
  | .meterExportPulse => Sys2Proof.Machine.execMeterExportPulse s
  | .meterImportPulse => Sys2Proof.Machine.execMeterImportPulse s
  | .goodFrame link kind body => Sys2Proof.Machine.execGoodFrame link kind body s
  | .badFrame link => Sys2Proof.Machine.execBadFrame link s
  | .linkGapTimeout link => Sys2Proof.Machine.execLinkGapTimeout link s
  | .quietTimerExpiry link => Sys2Proof.Machine.execQuietTimerExpiry link s
  | .linkFrameSent link => Sys2Proof.Machine.execLinkFrameSent link s
  | .unknownKindRequest link kind => Sys2Proof.Machine.execUnknownKindRequest link kind s
  | .timeSet t => Sys2Proof.Machine.execTimeSet t s
  | .timeTrim d => Sys2Proof.Machine.execTimeTrim d s
  | .headroomLoad first daily values => Sys2Proof.Machine.execHeadroomLoad first daily values s
  | .headroomOverride value expiry => Sys2Proof.Machine.execHeadroomOverride value expiry s
  | .tripHoldoffSet seconds => Sys2Proof.Machine.execTripHoldoffSet seconds s
  | .dispatchCall id start stop target minAccept => Sys2Proof.Machine.execDispatchCall id start stop target minAccept s
  | .dispatchRevise id target stop => Sys2Proof.Machine.execDispatchRevise id target stop s
  | .dispatchCancel id => Sys2Proof.Machine.execDispatchCancel id s
  | .offerQuery start stop => Sys2Proof.Machine.execOfferQuery start stop s
  | .resultQuery id first => Sys2Proof.Machine.execResultQuery id first s
  | .planLoad vehicle departure energy afterEvent shortHoldOff => Sys2Proof.Machine.execPlanLoad vehicle departure energy afterEvent shortHoldOff s
  | .planDelete vehicle => Sys2Proof.Machine.execPlanDelete vehicle s
  | .planQueryOne vehicle => Sys2Proof.Machine.execPlanQueryOne vehicle s
  | .planQueryPage vehicle => Sys2Proof.Machine.execPlanQueryPage vehicle s
  | .holdSetLockout vehicle => Sys2Proof.Machine.execHoldSetLockout vehicle s
  | .holdSetHold vehicle => Sys2Proof.Machine.execHoldSetHold vehicle s
  | .holdClear vehicle => Sys2Proof.Machine.execHoldClear vehicle s
  | .parameterSet id value => Sys2Proof.Machine.execParameterSet id value s
  | .parameterQuery id => Sys2Proof.Machine.execParameterQuery id s
  | .rotationSet yieldOn entries => Sys2Proof.Machine.execRotationSet yieldOn entries s
  | .groupSet dock group => Sys2Proof.Machine.execGroupSet dock group s
  | .dockManual dock value => Sys2Proof.Machine.execDockManual dock value s
  | .dockAuto dock => Sys2Proof.Machine.execDockAuto dock s
  | .dockEnable dock => Sys2Proof.Machine.execDockEnable dock s
  | .dockDisable dock => Sys2Proof.Machine.execDockDisable dock s
  | .dockClear dock => Sys2Proof.Machine.execDockClear dock s
  | .netRestart => Sys2Proof.Machine.execNetRestart s
  | .echoTest dock count => Sys2Proof.Machine.execEchoTest dock count s
  | .echoQuery => Sys2Proof.Machine.execEchoQuery s
  | .queueQuery link => Sys2Proof.Machine.execQueueQuery link s
  | .queueQueryParticipants link first => Sys2Proof.Machine.execQueueQueryParticipants link first s
  | .siteQuery link => Sys2Proof.Machine.execSiteQuery link s
  | .clockQuery link => Sys2Proof.Machine.execClockQuery link s
  | .linkQuery link => Sys2Proof.Machine.execLinkQuery link s
  | .dockQuery link dock => Sys2Proof.Machine.execDockQuery link dock s
  | .dockQuerySummary link => Sys2Proof.Machine.execDockQuerySummary link s
  | .syncByteBeginsFrame link => Sys2Proof.Machine.execSyncByteBeginsFrame link s

end Sys2Proof.Machine
end

