-- ==== Sys2Proof/Laws/State.lean ====
section
/-! SUPPORT. One lemma per field for each update of State. -/

namespace Sys2Proof.Machine

open Sys2Proof

variable (s : State)

/-! ### setDock -/

@[simp] theorem State.setDock_rpt (d : Dock) (r : DockRecord) : (s.setDock d r).rpt = s.rpt := rfl
@[simp] theorem State.setDock_evq (d : Dock) (r : DockRecord) : (s.setDock d r).evq = s.evq := rfl
@[simp] theorem State.setDock_alc (d : Dock) (r : DockRecord) : (s.setDock d r).alc = s.alc := rfl
@[simp] theorem State.setDock_rot (d : Dock) (r : DockRecord) : (s.setDock d r).rot = s.rot := rfl
@[simp] theorem State.setDock_slu (d : Dock) (r : DockRecord) : (s.setDock d r).slu = s.slu := rfl
@[simp] theorem State.setDock_tly (d : Dock) (r : DockRecord) : (s.setDock d r).tly = s.tly := rfl
@[simp] theorem State.setDock_dck (d : Dock) (r : DockRecord) : (s.setDock d r).dck = s.dck := rfl
@[simp] theorem State.setDock_dnc (d : Dock) (r : DockRecord) : (s.setDock d r).dnc = s.dnc := rfl
@[simp] theorem State.setDock_grid (d : Dock) (r : DockRecord) : (s.setDock d r).grid = s.grid := rfl
@[simp] theorem State.setDock_fleet (d : Dock) (r : DockRecord) : (s.setDock d r).fleet = s.fleet := rfl
@[simp] theorem State.setDock_pending (d : Dock) (r : DockRecord) : (s.setDock d r).pending = s.pending := rfl
@[simp] theorem State.setDock_draws (d : Dock) (r : DockRecord) : (s.setDock d r).draws = s.draws := rfl
@[simp] theorem State.setDock_dock (d e : Dock) (r : DockRecord) : (s.setDock d r).dock e = if e = d then r else s.dock e := by
  by_cases h : e = d
  · subst h; simp [State.setDock, State.dock]
  · have h' : d.val ≠ e.val := fun hc => h (Fin.ext hc.symm)
    simp [State.setDock, State.dock, h, h']

theorem State.setDock_dock_self (d : Dock) (r : DockRecord) : (s.setDock d r).dock d = r := by simp

/-! ### modifyDock -/

@[simp] theorem State.modifyDock_rpt (d : Dock) (f : DockRecord → DockRecord) : (s.modifyDock d f).rpt = s.rpt := rfl
@[simp] theorem State.modifyDock_evq (d : Dock) (f : DockRecord → DockRecord) : (s.modifyDock d f).evq = s.evq := rfl
@[simp] theorem State.modifyDock_alc (d : Dock) (f : DockRecord → DockRecord) : (s.modifyDock d f).alc = s.alc := rfl
@[simp] theorem State.modifyDock_rot (d : Dock) (f : DockRecord → DockRecord) : (s.modifyDock d f).rot = s.rot := rfl
@[simp] theorem State.modifyDock_slu (d : Dock) (f : DockRecord → DockRecord) : (s.modifyDock d f).slu = s.slu := rfl
@[simp] theorem State.modifyDock_tly (d : Dock) (f : DockRecord → DockRecord) : (s.modifyDock d f).tly = s.tly := rfl
@[simp] theorem State.modifyDock_dck (d : Dock) (f : DockRecord → DockRecord) : (s.modifyDock d f).dck = s.dck := rfl
@[simp] theorem State.modifyDock_dnc (d : Dock) (f : DockRecord → DockRecord) : (s.modifyDock d f).dnc = s.dnc := rfl
@[simp] theorem State.modifyDock_grid (d : Dock) (f : DockRecord → DockRecord) : (s.modifyDock d f).grid = s.grid := rfl
@[simp] theorem State.modifyDock_fleet (d : Dock) (f : DockRecord → DockRecord) : (s.modifyDock d f).fleet = s.fleet := rfl
@[simp] theorem State.modifyDock_pending (d : Dock) (f : DockRecord → DockRecord) : (s.modifyDock d f).pending = s.pending := rfl
@[simp] theorem State.modifyDock_draws (d : Dock) (f : DockRecord → DockRecord) : (s.modifyDock d f).draws = s.draws := rfl
@[simp] theorem State.modifyDock_dock (d e : Dock) (f : DockRecord → DockRecord) :
    (s.modifyDock d f).dock e = if e = d then f (s.dock d) else s.dock e := by
  simp [State.modifyDock]

theorem State.modifyDock_dock_self (d : Dock) (f : DockRecord → DockRecord) : (s.modifyDock d f).dock d = f (s.dock d) := by simp

/-! ### mapPort -/

@[simp] theorem State.mapPort_docks (l : Link) (f : Port → Port) : (s.mapPort l f).docks = s.docks := by cases l <;> rfl
@[simp] theorem State.mapPort_rpt (l : Link) (f : Port → Port) : (s.mapPort l f).rpt = s.rpt := by cases l <;> rfl
@[simp] theorem State.mapPort_evq (l : Link) (f : Port → Port) : (s.mapPort l f).evq = s.evq := by cases l <;> rfl
@[simp] theorem State.mapPort_alc (l : Link) (f : Port → Port) : (s.mapPort l f).alc = s.alc := by cases l <;> rfl
@[simp] theorem State.mapPort_rot (l : Link) (f : Port → Port) : (s.mapPort l f).rot = s.rot := by cases l <;> rfl
@[simp] theorem State.mapPort_slu (l : Link) (f : Port → Port) : (s.mapPort l f).slu = s.slu := by cases l <;> rfl
@[simp] theorem State.mapPort_tly (l : Link) (f : Port → Port) : (s.mapPort l f).tly = s.tly := by cases l <;> rfl
@[simp] theorem State.mapPort_dck (l : Link) (f : Port → Port) : (s.mapPort l f).dck = s.dck := by cases l <;> rfl
@[simp] theorem State.mapPort_dnc (l : Link) (f : Port → Port) : (s.mapPort l f).dnc = s.dnc := by cases l <;> rfl
@[simp] theorem State.mapPort_pending (l : Link) (f : Port → Port) : (s.mapPort l f).pending = s.pending := by cases l <;> rfl
@[simp] theorem State.mapPort_draws (l : Link) (f : Port → Port) : (s.mapPort l f).draws = s.draws := by cases l <;> rfl

@[simp] theorem State.mapPort_grid_grid (f : Port → Port) : (s.mapPort .grid f).grid = f s.grid := rfl
@[simp] theorem State.mapPort_grid_fleet (f : Port → Port) : (s.mapPort .grid f).fleet = s.fleet := rfl
@[simp] theorem State.mapPort_fleet_grid (f : Port → Port) : (s.mapPort .fleet f).grid = s.grid := rfl
@[simp] theorem State.mapPort_fleet_fleet (f : Port → Port) : (s.mapPort .fleet f).fleet = f s.fleet := rfl
@[simp] theorem State.mapPort_dock (l : Link) (f : Port → Port) (d : Dock) : (s.mapPort l f).dock d = s.dock d := by cases l <;> rfl

theorem State.mapPort_port (l m : Link) (f : Port → Port) : (s.mapPort l f).port m = if m = l then f (s.port l) else s.port m := by
  cases l <;> cases m <;> rfl

/-! ### mapDnc -/

@[simp] theorem State.mapDnc_docks (f : Dnc → Dnc) : (s.mapDnc f).docks = s.docks := rfl
@[simp] theorem State.mapDnc_rpt (f : Dnc → Dnc) : (s.mapDnc f).rpt = s.rpt := rfl
@[simp] theorem State.mapDnc_evq (f : Dnc → Dnc) : (s.mapDnc f).evq = s.evq := rfl
@[simp] theorem State.mapDnc_alc (f : Dnc → Dnc) : (s.mapDnc f).alc = s.alc := rfl
@[simp] theorem State.mapDnc_rot (f : Dnc → Dnc) : (s.mapDnc f).rot = s.rot := rfl
@[simp] theorem State.mapDnc_slu (f : Dnc → Dnc) : (s.mapDnc f).slu = s.slu := rfl
@[simp] theorem State.mapDnc_tly (f : Dnc → Dnc) : (s.mapDnc f).tly = s.tly := rfl
@[simp] theorem State.mapDnc_dck (f : Dnc → Dnc) : (s.mapDnc f).dck = s.dck := rfl
@[simp] theorem State.mapDnc_grid (f : Dnc → Dnc) : (s.mapDnc f).grid = s.grid := rfl
@[simp] theorem State.mapDnc_fleet (f : Dnc → Dnc) : (s.mapDnc f).fleet = s.fleet := rfl
@[simp] theorem State.mapDnc_pending (f : Dnc → Dnc) : (s.mapDnc f).pending = s.pending := rfl
@[simp] theorem State.mapDnc_draws (f : Dnc → Dnc) : (s.mapDnc f).draws = s.draws := rfl
@[simp] theorem State.mapDnc_dnc (f : Dnc → Dnc) : (s.mapDnc f).dnc = f s.dnc := rfl
@[simp] theorem State.mapDnc_dock (f : Dnc → Dnc) (d : Dock) : (s.mapDnc f).dock d = s.dock d := rfl

/-! ### mapPlans -/

@[simp] theorem State.mapPlans_docks (f : List Plan → List Plan) : (s.mapPlans f).docks = s.docks := rfl
@[simp] theorem State.mapPlans_evq (f : List Plan → List Plan) : (s.mapPlans f).evq = s.evq := rfl
@[simp] theorem State.mapPlans_alc (f : List Plan → List Plan) : (s.mapPlans f).alc = s.alc := rfl
@[simp] theorem State.mapPlans_rot (f : List Plan → List Plan) : (s.mapPlans f).rot = s.rot := rfl
@[simp] theorem State.mapPlans_slu (f : List Plan → List Plan) : (s.mapPlans f).slu = s.slu := rfl
@[simp] theorem State.mapPlans_tly (f : List Plan → List Plan) : (s.mapPlans f).tly = s.tly := rfl
@[simp] theorem State.mapPlans_dck (f : List Plan → List Plan) : (s.mapPlans f).dck = s.dck := rfl
@[simp] theorem State.mapPlans_dnc (f : List Plan → List Plan) : (s.mapPlans f).dnc = s.dnc := rfl
@[simp] theorem State.mapPlans_grid (f : List Plan → List Plan) : (s.mapPlans f).grid = s.grid := rfl
@[simp] theorem State.mapPlans_fleet (f : List Plan → List Plan) : (s.mapPlans f).fleet = s.fleet := rfl
@[simp] theorem State.mapPlans_pending (f : List Plan → List Plan) : (s.mapPlans f).pending = s.pending := rfl
@[simp] theorem State.mapPlans_draws (f : List Plan → List Plan) : (s.mapPlans f).draws = s.draws := rfl
@[simp] theorem State.mapPlans_rpt (f : List Plan → List Plan) : (s.mapPlans f).rpt = { s.rpt with plans := f s.rpt.plans } := rfl
@[simp] theorem State.mapPlans_dock (f : List Plan → List Plan) (d : Dock) : (s.mapPlans f).dock d = s.dock d := rfl

/-! ### mapTally -/

@[simp] theorem State.mapTally_docks (f : Tally → Tally) : (s.mapTally f).docks = s.docks := rfl
@[simp] theorem State.mapTally_rpt (f : Tally → Tally) : (s.mapTally f).rpt = s.rpt := rfl
@[simp] theorem State.mapTally_evq (f : Tally → Tally) : (s.mapTally f).evq = s.evq := rfl
@[simp] theorem State.mapTally_alc (f : Tally → Tally) : (s.mapTally f).alc = s.alc := rfl
@[simp] theorem State.mapTally_rot (f : Tally → Tally) : (s.mapTally f).rot = s.rot := rfl
@[simp] theorem State.mapTally_slu (f : Tally → Tally) : (s.mapTally f).slu = s.slu := rfl
@[simp] theorem State.mapTally_dck (f : Tally → Tally) : (s.mapTally f).dck = s.dck := rfl
@[simp] theorem State.mapTally_dnc (f : Tally → Tally) : (s.mapTally f).dnc = s.dnc := rfl
@[simp] theorem State.mapTally_grid (f : Tally → Tally) : (s.mapTally f).grid = s.grid := rfl
@[simp] theorem State.mapTally_fleet (f : Tally → Tally) : (s.mapTally f).fleet = s.fleet := rfl
@[simp] theorem State.mapTally_pending (f : Tally → Tally) : (s.mapTally f).pending = s.pending := rfl
@[simp] theorem State.mapTally_draws (f : Tally → Tally) : (s.mapTally f).draws = s.draws := rfl
@[simp] theorem State.mapTally_tly (f : Tally → Tally) : (s.mapTally f).tly = { s.tly with tally := s.tly.tally.map f } := rfl
@[simp] theorem State.mapTally_dock (f : Tally → Tally) (d : Dock) : (s.mapTally f).dock d = s.dock d := rfl

/-! ### mapEvq -/

@[simp] theorem State.mapEvq_docks (f : List EventRecord → List EventRecord) : (s.mapEvq f).docks = s.docks := rfl
@[simp] theorem State.mapEvq_rpt (f : List EventRecord → List EventRecord) : (s.mapEvq f).rpt = s.rpt := rfl
@[simp] theorem State.mapEvq_alc (f : List EventRecord → List EventRecord) : (s.mapEvq f).alc = s.alc := rfl
@[simp] theorem State.mapEvq_rot (f : List EventRecord → List EventRecord) : (s.mapEvq f).rot = s.rot := rfl
@[simp] theorem State.mapEvq_slu (f : List EventRecord → List EventRecord) : (s.mapEvq f).slu = s.slu := rfl
@[simp] theorem State.mapEvq_tly (f : List EventRecord → List EventRecord) : (s.mapEvq f).tly = s.tly := rfl
@[simp] theorem State.mapEvq_dck (f : List EventRecord → List EventRecord) : (s.mapEvq f).dck = s.dck := rfl
@[simp] theorem State.mapEvq_dnc (f : List EventRecord → List EventRecord) : (s.mapEvq f).dnc = s.dnc := rfl
@[simp] theorem State.mapEvq_grid (f : List EventRecord → List EventRecord) : (s.mapEvq f).grid = s.grid := rfl
@[simp] theorem State.mapEvq_fleet (f : List EventRecord → List EventRecord) : (s.mapEvq f).fleet = s.fleet := rfl
@[simp] theorem State.mapEvq_pending (f : List EventRecord → List EventRecord) : (s.mapEvq f).pending = s.pending := rfl
@[simp] theorem State.mapEvq_draws (f : List EventRecord → List EventRecord) : (s.mapEvq f).draws = s.draws := rfl
@[simp] theorem State.mapEvq_evq (f : List EventRecord → List EventRecord) : (s.mapEvq f).evq = f s.evq := rfl
@[simp] theorem State.mapEvq_dock (f : List EventRecord → List EventRecord) (d : Dock) : (s.mapEvq f).dock d = s.dock d := rfl

/-! ### drawn -/

@[simp] theorem State.drawn_docks : s.drawn.docks = s.docks := rfl
@[simp] theorem State.drawn_rpt : s.drawn.rpt = s.rpt := rfl
@[simp] theorem State.drawn_evq : s.drawn.evq = s.evq := rfl
@[simp] theorem State.drawn_alc : s.drawn.alc = s.alc := rfl
@[simp] theorem State.drawn_rot : s.drawn.rot = s.rot := rfl
@[simp] theorem State.drawn_slu : s.drawn.slu = s.slu := rfl
@[simp] theorem State.drawn_tly : s.drawn.tly = s.tly := rfl
@[simp] theorem State.drawn_dck : s.drawn.dck = s.dck := rfl
@[simp] theorem State.drawn_dnc : s.drawn.dnc = s.dnc := rfl
@[simp] theorem State.drawn_grid : s.drawn.grid = s.grid := rfl
@[simp] theorem State.drawn_fleet : s.drawn.fleet = s.fleet := rfl
@[simp] theorem State.drawn_pending : s.drawn.pending = s.pending := rfl
@[simp] theorem State.drawn_draws : s.drawn.draws = s.draws + 1 := rfl
@[simp] theorem State.drawn_dock (d : Dock) : s.drawn.dock d = s.dock d := rfl

/-! ### settleExperm -/

@[simp] theorem settleExperm_docks : (settleExperm s).docks = s.docks := rfl
@[simp] theorem settleExperm_rpt : (settleExperm s).rpt = s.rpt := rfl
@[simp] theorem settleExperm_evq : (settleExperm s).evq = s.evq := rfl
@[simp] theorem settleExperm_alc : (settleExperm s).alc = s.alc := rfl
@[simp] theorem settleExperm_rot : (settleExperm s).rot = s.rot := rfl
@[simp] theorem settleExperm_tly : (settleExperm s).tly = s.tly := rfl
@[simp] theorem settleExperm_dck : (settleExperm s).dck = s.dck := rfl
@[simp] theorem settleExperm_dnc : (settleExperm s).dnc = s.dnc := rfl
@[simp] theorem settleExperm_grid : (settleExperm s).grid = s.grid := rfl
@[simp] theorem settleExperm_fleet : (settleExperm s).fleet = s.fleet := rfl
@[simp] theorem settleExperm_pending : (settleExperm s).pending = s.pending := rfl
@[simp] theorem settleExperm_draws : (settleExperm s).draws = s.draws := rfl
@[simp] theorem settleExperm_slu : (settleExperm s).slu = { s.slu with experm := expermCondition s } := rfl
@[simp] theorem settleExperm_dock (d : Dock) : (settleExperm s).dock d = s.dock d := rfl

end Sys2Proof.Machine
end

