-- ==== Sys2Proof/Laws/Ops.lean ====
section
/-! SUPPORT. What each shared operation does, said once: notices, folds, orders, holds, phase flips and the allocation pass. -/

namespace Sys2Proof.Machine

open Sys2Proof

variable (s : State)

/-! ### Folds and orders -/

/-- A fold whose every step keeps a projection keeps it. -/
theorem foldl_keeps {α β γ : Type} (p : β → γ) (f : β → α → β) (h : ∀ b a, p (f b a) = p b) (l : List α) (b : β) :
    p (l.foldl f b) = p b := by
  induction l generalizing b with
  | nil => rfl
  | cons a l ih => rw [List.foldl_cons, ih, h]

/-- A fold whose every step keeps a predicate keeps it. -/
theorem foldl_keeps_pred {α β : Type} (P : β → Prop) (f : β → α → β) (l : List α) (h : ∀ b, ∀ a ∈ l, P b → P (f b a)) (b : β)
    (hb : P b) : P (l.foldl f b) := by
  induction l generalizing b with
  | nil => exact hb
  | cons a l ih =>
    exact ih (fun b' a' ha' => h b' a' (List.mem_cons_of_mem _ ha')) _ (h b a List.mem_cons_self hb)

theorem insertBy_perm {α : Type} (le : α → α → Bool) (a : α) (l : List α) : (insertBy le a l).Perm (a :: l) := by
  induction l with
  | nil => exact List.Perm.refl _
  | cons b l ih =>
    simp only [insertBy]
    split
    · exact List.Perm.refl _
    · exact (ih.cons b).trans (List.Perm.swap a b l)

theorem sortBy_perm {α : Type} (le : α → α → Bool) (l : List α) : (sortBy le l).Perm l := by
  induction l with
  | nil => exact List.Perm.refl _
  | cons a l ih => exact (insertBy_perm le a _).trans (ih.cons a)

theorem map_fst_zipIdx {α : Type} (l : List α) (n : Nat) : (l.zipIdx n).map Prod.fst = l := by
  induction l generalizing n with
  | nil => rfl
  | cons a l ih => simp [ih]

/-- A free order is an order of the same items. -/
theorem freeOrder_perm {α : Type} (n : Nat) (l : List α) : (freeOrder n l).Perm l := by
  have h := (sortBy_perm (fun a b => decide (Config.orderKey n a.2 ≤ Config.orderKey n b.2)) l.zipIdx).map Prod.fst
  rwa [map_fst_zipIdx] at h

theorem mem_freeOrder {α : Type} (n : Nat) (l : List α) (a : α) : a ∈ freeOrder n l ↔ a ∈ l := (freeOrder_perm n l).mem_iff

/-! ### Notices -/

@[simp] theorem raiseOn_docks (l : Link) (n : Notice) : (raiseOn l n s).docks = s.docks := by simp [raiseOn]
@[simp] theorem raiseOn_rpt (l : Link) (n : Notice) : (raiseOn l n s).rpt = s.rpt := by simp [raiseOn]
@[simp] theorem raiseOn_evq (l : Link) (n : Notice) : (raiseOn l n s).evq = s.evq := by simp [raiseOn]
@[simp] theorem raiseOn_alc (l : Link) (n : Notice) : (raiseOn l n s).alc = s.alc := by simp [raiseOn]
@[simp] theorem raiseOn_rot (l : Link) (n : Notice) : (raiseOn l n s).rot = s.rot := by simp [raiseOn]
@[simp] theorem raiseOn_slu (l : Link) (n : Notice) : (raiseOn l n s).slu = s.slu := by simp [raiseOn]
@[simp] theorem raiseOn_tly (l : Link) (n : Notice) : (raiseOn l n s).tly = s.tly := by simp [raiseOn]
@[simp] theorem raiseOn_dck (l : Link) (n : Notice) : (raiseOn l n s).dck = s.dck := by simp [raiseOn]
@[simp] theorem raiseOn_dnc (l : Link) (n : Notice) : (raiseOn l n s).dnc = s.dnc := by simp [raiseOn]
@[simp] theorem raiseOn_pending (l : Link) (n : Notice) : (raiseOn l n s).pending = s.pending := by simp [raiseOn]
@[simp] theorem raiseOn_draws (l : Link) (n : Notice) : (raiseOn l n s).draws = s.draws := by simp [raiseOn]
@[simp] theorem raiseOn_dock (l : Link) (n : Notice) (d : Dock) : (raiseOn l n s).dock d = s.dock d := by simp [raiseOn]
@[simp] theorem raiseOn_fleet_grid (n : Notice) : (raiseOn .fleet n s).grid = s.grid := rfl
@[simp] theorem raiseOn_fleet_fleet (n : Notice) : (raiseOn .fleet n s).fleet = s.fleet.raise n := rfl
@[simp] theorem raiseOn_grid_grid (n : Notice) : (raiseOn .grid n s).grid = s.grid.raise n := rfl
@[simp] theorem raiseOn_grid_fleet (n : Notice) : (raiseOn .grid n s).fleet = s.fleet := rfl
@[simp] theorem raiseBoth_docks (n : Notice) : (raiseBoth n s).docks = s.docks := by simp [raiseBoth]
@[simp] theorem raiseBoth_rpt (n : Notice) : (raiseBoth n s).rpt = s.rpt := by simp [raiseBoth]
@[simp] theorem raiseBoth_evq (n : Notice) : (raiseBoth n s).evq = s.evq := by simp [raiseBoth]
@[simp] theorem raiseBoth_alc (n : Notice) : (raiseBoth n s).alc = s.alc := by simp [raiseBoth]
@[simp] theorem raiseBoth_rot (n : Notice) : (raiseBoth n s).rot = s.rot := by simp [raiseBoth]
@[simp] theorem raiseBoth_slu (n : Notice) : (raiseBoth n s).slu = s.slu := by simp [raiseBoth]
@[simp] theorem raiseBoth_tly (n : Notice) : (raiseBoth n s).tly = s.tly := by simp [raiseBoth]
@[simp] theorem raiseBoth_dck (n : Notice) : (raiseBoth n s).dck = s.dck := by simp [raiseBoth]
@[simp] theorem raiseBoth_dnc (n : Notice) : (raiseBoth n s).dnc = s.dnc := by simp [raiseBoth]
@[simp] theorem raiseBoth_pending (n : Notice) : (raiseBoth n s).pending = s.pending := by simp [raiseBoth]
@[simp] theorem raiseBoth_draws (n : Notice) : (raiseBoth n s).draws = s.draws := by simp [raiseBoth]
@[simp] theorem raiseBoth_dock (n : Notice) (d : Dock) : (raiseBoth n s).dock d = s.dock d := by simp [raiseBoth]
@[simp] theorem raiseBoth_grid (n : Notice) : (raiseBoth n s).grid = s.grid.raise n := rfl
@[simp] theorem raiseBoth_fleet (n : Notice) : (raiseBoth n s).fleet = s.fleet.raise n := rfl

theorem Port.serve_lock (p : Port) : p.serve.lock = p.lock := by
  unfold Port.serve; split <;> [rfl; (split <;> [(split <;> rfl); (split <;> rfl)])]

/-- A QUIET port discards a notice (R181). -/
theorem Port.raise_quiet (n : Notice) (p : Port) (h : p.lock = .quiet) : p.raise n = p := by simp [Port.raise, h]

/-! ### Holds (R44) -/

@[simp] theorem changeHolds_docks (c : Plan → Option (Plan × HoldCause)) : (changeHolds c s).docks = s.docks := by
  simp only [changeHolds]; rw [foldl_keeps (fun t : State => t.docks) _ (by simp)]; rfl
@[simp] theorem changeHolds_evq (c : Plan → Option (Plan × HoldCause)) : (changeHolds c s).evq = s.evq := by
  simp only [changeHolds]; rw [foldl_keeps (fun t : State => t.evq) _ (by simp)]; rfl
@[simp] theorem changeHolds_alc (c : Plan → Option (Plan × HoldCause)) : (changeHolds c s).alc = s.alc := by
  simp only [changeHolds]; rw [foldl_keeps (fun t : State => t.alc) _ (by simp)]; rfl
@[simp] theorem changeHolds_rot (c : Plan → Option (Plan × HoldCause)) : (changeHolds c s).rot = s.rot := by
  simp only [changeHolds]; rw [foldl_keeps (fun t : State => t.rot) _ (by simp)]; rfl
@[simp] theorem changeHolds_slu (c : Plan → Option (Plan × HoldCause)) : (changeHolds c s).slu = s.slu := by
  simp only [changeHolds]; rw [foldl_keeps (fun t : State => t.slu) _ (by simp)]; rfl
@[simp] theorem changeHolds_tly (c : Plan → Option (Plan × HoldCause)) : (changeHolds c s).tly = s.tly := by
  simp only [changeHolds]; rw [foldl_keeps (fun t : State => t.tly) _ (by simp)]; rfl
@[simp] theorem changeHolds_dck (c : Plan → Option (Plan × HoldCause)) : (changeHolds c s).dck = s.dck := by
  simp only [changeHolds]; rw [foldl_keeps (fun t : State => t.dck) _ (by simp)]; rfl
@[simp] theorem changeHolds_dnc (c : Plan → Option (Plan × HoldCause)) : (changeHolds c s).dnc = s.dnc := by
  simp only [changeHolds]; rw [foldl_keeps (fun t : State => t.dnc) _ (by simp)]; rfl
@[simp] theorem changeHolds_grid (c : Plan → Option (Plan × HoldCause)) : (changeHolds c s).grid = s.grid := by
  simp only [changeHolds]; rw [foldl_keeps (fun t : State => t.grid) _ (by simp)]; rfl
@[simp] theorem changeHolds_pending (c : Plan → Option (Plan × HoldCause)) : (changeHolds c s).pending = s.pending := by
  simp only [changeHolds]; rw [foldl_keeps (fun t : State => t.pending) _ (by simp)]; rfl
@[simp] theorem changeHolds_draws (c : Plan → Option (Plan × HoldCause)) : (changeHolds c s).draws = s.draws := by
  simp only [changeHolds]; rw [foldl_keeps (fun t : State => t.draws) _ (by simp)]; rfl

/-- Only the entries `change` selects are changed, each to what `change` gives it (R44). -/
@[simp] theorem changeHolds_rpt (c : Plan → Option (Plan × HoldCause)) :
    (changeHolds c s).rpt = { s.rpt with plans := s.rpt.plans.map fun p => ((c p).map Prod.fst).getD p } := by
  simp only [changeHolds]; rw [foldl_keeps (fun t : State => t.rpt) _ (by simp)]; rfl

/-- The HOLD NOTICEs go to the Fleet Link, in id order (R44). -/
theorem changeHolds_fleet (c : Plan → Option (Plan × HoldCause)) :
    (changeHolds c s).fleet = (s.rpt.plans.filterMap c).foldl (fun p q => p.raise (holdNotice q.2 q.1)) s.fleet := by
  simp only [changeHolds]
  generalize s.rpt.plans.filterMap c = l
  have h : ∀ t : State, (l.foldl (fun t q => raiseOn .fleet (holdNotice q.2 q.1) t) t).fleet =
      l.foldl (fun p q => p.raise (holdNotice q.2 q.1)) t.fleet := by
    induction l with
    | nil => intro t; rfl
    | cons q l ih => intro t; exact ih _
  exact h _

@[simp] theorem changeHolds_dock (c : Plan → Option (Plan × HoldCause)) (d : Dock) : (changeHolds c s).dock d = s.dock d := by
  simp [State.dock]

@[simp] theorem applyShortBand_docks (l : List Nat) : (applyShortBand l s).docks = s.docks := changeHolds_docks s _
@[simp] theorem applyShortBand_evq (l : List Nat) : (applyShortBand l s).evq = s.evq := changeHolds_evq s _
@[simp] theorem applyShortBand_alc (l : List Nat) : (applyShortBand l s).alc = s.alc := changeHolds_alc s _
@[simp] theorem applyShortBand_rot (l : List Nat) : (applyShortBand l s).rot = s.rot := changeHolds_rot s _
@[simp] theorem applyShortBand_slu (l : List Nat) : (applyShortBand l s).slu = s.slu := changeHolds_slu s _
@[simp] theorem applyShortBand_tly (l : List Nat) : (applyShortBand l s).tly = s.tly := changeHolds_tly s _
@[simp] theorem applyShortBand_dck (l : List Nat) : (applyShortBand l s).dck = s.dck := changeHolds_dck s _
@[simp] theorem applyShortBand_dnc (l : List Nat) : (applyShortBand l s).dnc = s.dnc := changeHolds_dnc s _
@[simp] theorem applyShortBand_grid (l : List Nat) : (applyShortBand l s).grid = s.grid := changeHolds_grid s _
@[simp] theorem applyShortBand_pending (l : List Nat) : (applyShortBand l s).pending = s.pending := changeHolds_pending s _
@[simp] theorem applyShortBand_draws (l : List Nat) : (applyShortBand l s).draws = s.draws := changeHolds_draws s _
@[simp] theorem applyShortBand_dock (l : List Nat) (d : Dock) : (applyShortBand l s).dock d = s.dock d := changeHolds_dock s _ d

/-! ### Phase flips and the writing of a pass (R174, R101) -/

@[simp] theorem flipPhase_rpt (d : Dock) : (flipPhase d s).rpt = s.rpt := rfl
@[simp] theorem flipPhase_evq (d : Dock) : (flipPhase d s).evq = s.evq := rfl
@[simp] theorem flipPhase_alc (d : Dock) : (flipPhase d s).alc = s.alc := rfl
@[simp] theorem flipPhase_rot (d : Dock) : (flipPhase d s).rot = s.rot := rfl
@[simp] theorem flipPhase_slu (d : Dock) : (flipPhase d s).slu = s.slu := rfl
@[simp] theorem flipPhase_tly (d : Dock) : (flipPhase d s).tly = s.tly := rfl
@[simp] theorem flipPhase_dck (d : Dock) : (flipPhase d s).dck = s.dck := rfl
@[simp] theorem flipPhase_grid (d : Dock) : (flipPhase d s).grid = s.grid := rfl
@[simp] theorem flipPhase_fleet (d : Dock) : (flipPhase d s).fleet = s.fleet := rfl
@[simp] theorem flipPhase_pending (d : Dock) : (flipPhase d s).pending = s.pending := rfl
@[simp] theorem flipPhase_draws (d : Dock) : (flipPhase d s).draws = s.draws := rfl

/-- The record of the flipped dock alone changes, by R15. -/
@[simp] theorem flipPhase_dock (d e : Dock) : (flipPhase d s).dock e =
    if e = d then { s.dock d with phaseAcked := false, phaseMismatch := 0, powerMismatch := 0 } else s.dock e := by
  simp [flipPhase]

/-- Of the Dock Net Controller the phase bits alone change. -/
@[simp] theorem flipPhase_dnc (d : Dock) : (flipPhase d s).dnc = { s.dnc with phase := s.dnc.phase.set d (!s.dnc.phase[d]) } := rfl

/-- Of the phase bits the dock's own alone changes (R174). -/
theorem flipPhase_phaseOf (d e : Dock) : (flipPhase d s).dnc.phaseOf e = if e = d then !s.dnc.phaseOf d else s.dnc.phaseOf e := by
  by_cases h : e = d
  · subst h; simp [Dnc.phaseOf]
  · have h' : d.val ≠ e.val := fun hc => h (Fin.ext hc.symm)
    simp [Dnc.phaseOf, h, h']

/-- A record after a pass has written it (R101, R15). -/
def DockRecord.written (sp : Int) (share floor : Nat) (r : DockRecord) : DockRecord :=
  { (if sp ≠ r.setpoint then { r with phaseAcked := false, phaseMismatch := 0, powerMismatch := 0 } else r) with
    setpoint := sp, share := share, floor := floor }

@[simp] theorem writeDock_rpt (sp : Int) (share floor : Nat) (d : Dock) : (writeDock sp share floor d s).rpt = s.rpt := by
  simp only [writeDock]; split <;> simp
@[simp] theorem writeDock_evq (sp : Int) (share floor : Nat) (d : Dock) : (writeDock sp share floor d s).evq = s.evq := by
  simp only [writeDock]; split <;> simp
@[simp] theorem writeDock_alc (sp : Int) (share floor : Nat) (d : Dock) : (writeDock sp share floor d s).alc = s.alc := by
  simp only [writeDock]; split <;> simp
@[simp] theorem writeDock_rot (sp : Int) (share floor : Nat) (d : Dock) : (writeDock sp share floor d s).rot = s.rot := by
  simp only [writeDock]; split <;> simp
@[simp] theorem writeDock_slu (sp : Int) (share floor : Nat) (d : Dock) : (writeDock sp share floor d s).slu = s.slu := by
  simp only [writeDock]; split <;> simp
@[simp] theorem writeDock_tly (sp : Int) (share floor : Nat) (d : Dock) : (writeDock sp share floor d s).tly = s.tly := by
  simp only [writeDock]; split <;> simp
@[simp] theorem writeDock_dck (sp : Int) (share floor : Nat) (d : Dock) : (writeDock sp share floor d s).dck = s.dck := by
  simp only [writeDock]; split <;> simp
@[simp] theorem writeDock_grid (sp : Int) (share floor : Nat) (d : Dock) : (writeDock sp share floor d s).grid = s.grid := by
  simp only [writeDock]; split <;> simp
@[simp] theorem writeDock_fleet (sp : Int) (share floor : Nat) (d : Dock) : (writeDock sp share floor d s).fleet = s.fleet := by
  simp only [writeDock]; split <;> simp
@[simp] theorem writeDock_pending (sp : Int) (share floor : Nat) (d : Dock) : (writeDock sp share floor d s).pending = s.pending := by
  simp only [writeDock]; split <;> simp
@[simp] theorem writeDock_draws (sp : Int) (share floor : Nat) (d : Dock) : (writeDock sp share floor d s).draws = s.draws := by
  simp only [writeDock]; split <;> simp

@[simp] theorem writeDock_dock (sp : Int) (share floor : Nat) (d e : Dock) :
    (writeDock sp share floor d s).dock e = if e = d then (s.dock d).written sp share floor else s.dock e := by
  by_cases h : e = d
  · subst h
    by_cases hs : sp = (s.dock e).setpoint <;> simp [writeDock, DockRecord.written, hs]
  · by_cases hs : sp = (s.dock d).setpoint <;> simp [writeDock, h, hs]

theorem writeDock_phaseOf (sp : Int) (share floor : Nat) (d e : Dock) : (writeDock sp share floor d s).dnc.phaseOf e =
    if e = d then (s.dnc.phaseOf d ^^ decide (sp ≠ (s.dock d).setpoint)) else s.dnc.phaseOf e := by
  by_cases hs : sp = (s.dock d).setpoint
  · by_cases h : e = d
    · subst h; simp [writeDock, hs]
    · simp [writeDock, hs, h]
  · by_cases h : e = d
    · subst h; simp [writeDock, hs, Dnc.phaseOf]
    · have h' : d.val ≠ e.val := fun hc => h (Fin.ext hc.symm)
      simp [writeDock, hs, h, h', Dnc.phaseOf]

/-- A write touches of the Dock Net Controller the phase bits alone. -/
theorem writeDock_dnc (v : Vector Bool 40) (sp : Int) (share floor : Nat) (d : Dock) :
    { (writeDock sp share floor d s).dnc with phase := v } = { s.dnc with phase := v } := by
  by_cases hs : sp = (s.dock d).setpoint <;> simp [writeDock, hs]

section
variable (origin : State) (o : PassOutcome)

@[simp] theorem writeDocks_rpt : (writeDocks origin o s).rpt = s.rpt := by
  simp only [writeDocks]; exact foldl_keeps (fun t : State => t.rpt) _ (by simp) _ _
@[simp] theorem writeDocks_evq : (writeDocks origin o s).evq = s.evq := by
  simp only [writeDocks]; exact foldl_keeps (fun t : State => t.evq) _ (by simp) _ _
@[simp] theorem writeDocks_alc : (writeDocks origin o s).alc = s.alc := by
  simp only [writeDocks]; exact foldl_keeps (fun t : State => t.alc) _ (by simp) _ _
@[simp] theorem writeDocks_rot : (writeDocks origin o s).rot = s.rot := by
  simp only [writeDocks]; exact foldl_keeps (fun t : State => t.rot) _ (by simp) _ _
@[simp] theorem writeDocks_slu : (writeDocks origin o s).slu = s.slu := by
  simp only [writeDocks]; exact foldl_keeps (fun t : State => t.slu) _ (by simp) _ _
@[simp] theorem writeDocks_tly : (writeDocks origin o s).tly = s.tly := by
  simp only [writeDocks]; exact foldl_keeps (fun t : State => t.tly) _ (by simp) _ _
@[simp] theorem writeDocks_dck : (writeDocks origin o s).dck = s.dck := by
  simp only [writeDocks]; exact foldl_keeps (fun t : State => t.dck) _ (by simp) _ _
@[simp] theorem writeDocks_grid : (writeDocks origin o s).grid = s.grid := by
  simp only [writeDocks]; exact foldl_keeps (fun t : State => t.grid) _ (by simp) _ _
@[simp] theorem writeDocks_fleet : (writeDocks origin o s).fleet = s.fleet := by
  simp only [writeDocks]; exact foldl_keeps (fun t : State => t.fleet) _ (by simp) _ _
@[simp] theorem writeDocks_pending : (writeDocks origin o s).pending = s.pending := by
  simp only [writeDocks]; exact foldl_keeps (fun t : State => t.pending) _ (by simp) _ _
@[simp] theorem writeDocks_draws : (writeDocks origin o s).draws = s.draws := by
  simp only [writeDocks]; exact foldl_keeps (fun t : State => t.draws) _ (by simp) _ _

/-- A fold of writes over distinct docks writes each dock of the list once. -/
theorem foldl_writeDock_dock (sp : Dock → Int) (share floor : Dock → Nat) (l : List Dock) (hl : l.Nodup) (d : Dock) :
    (l.foldl (fun t d => writeDock (sp d) (share d) (floor d) d t) s).dock d =
      if d ∈ l then (s.dock d).written (sp d) (share d) (floor d) else s.dock d := by
  induction l generalizing s with
  | nil => simp
  | cons a l ih =>
    have hn := List.nodup_cons.mp hl
    rw [List.foldl_cons, ih _ hn.2]
    by_cases h : d = a
    · subst h; simp [hn.1]
    · simp [h]

theorem foldl_writeDock_phaseOf (sp : Dock → Int) (share floor : Dock → Nat) (l : List Dock) (hl : l.Nodup) (d : Dock) :
    (l.foldl (fun t d => writeDock (sp d) (share d) (floor d) d t) s).dnc.phaseOf d =
      if d ∈ l then (s.dnc.phaseOf d ^^ decide (sp d ≠ (s.dock d).setpoint)) else s.dnc.phaseOf d := by
  induction l generalizing s with
  | nil => simp
  | cons a l ih =>
    have hn := List.nodup_cons.mp hl
    rw [List.foldl_cons, ih _ hn.2]
    by_cases h : d = a
    · subst h; simp [hn.1, writeDock_phaseOf]
    · simp [h, writeDock_phaseOf]

/-- Every record after a pass has written the outcome (R101). -/
@[simp] theorem writeDocks_dock (d : Dock) :
    (writeDocks origin o s).dock d = (s.dock d).written (o.setpointOf d) (o.shareOf d) (passFloor origin d) := by
  exact (foldl_writeDock_dock s _ _ _ Dock.all (List.nodup_finRange 40) d).trans (if_pos (List.mem_finRange d))

/-- A phase bit after a pass: flipped exactly when the setpoint changed (R174). -/
theorem writeDocks_phaseOf (d : Dock) :
    (writeDocks origin o s).dnc.phaseOf d = (s.dnc.phaseOf d ^^ decide (o.setpointOf d ≠ (s.dock d).setpoint)) := by
  exact (foldl_writeDock_phaseOf s _ _ _ Dock.all (List.nodup_finRange 40) d).trans (if_pos (List.mem_finRange d))

/-- Of the Dock Net Controller the writing of a pass changes the phase bits alone. -/
theorem writeDocks_dnc (v : Vector Bool 40) :
    { (writeDocks origin o s).dnc with phase := v } = { s.dnc with phase := v } :=
  foldl_keeps (fun t : State => ({ t.dnc with phase := v } : Dnc)) _ (fun b a => writeDock_dnc b v _ _ _ a) _ _

end

/-! ### Queueing (R102, R172) -/

@[simp] theorem queueSetpoints_docks : (queueSetpoints s).docks = s.docks := by
  simp only [queueSetpoints]; exact foldl_keeps (fun t : State => t.docks) _ (by intro b a; simp only [queueFor]; split <;> rfl) _ _
@[simp] theorem queueSetpoints_rpt : (queueSetpoints s).rpt = s.rpt := by
  simp only [queueSetpoints]; exact foldl_keeps (fun t : State => t.rpt) _ (by intro b a; simp only [queueFor]; split <;> rfl) _ _
@[simp] theorem queueSetpoints_evq : (queueSetpoints s).evq = s.evq := by
  simp only [queueSetpoints]; exact foldl_keeps (fun t : State => t.evq) _ (by intro b a; simp only [queueFor]; split <;> rfl) _ _
@[simp] theorem queueSetpoints_alc : (queueSetpoints s).alc = s.alc := by
  simp only [queueSetpoints]; exact foldl_keeps (fun t : State => t.alc) _ (by intro b a; simp only [queueFor]; split <;> rfl) _ _
@[simp] theorem queueSetpoints_rot : (queueSetpoints s).rot = s.rot := by
  simp only [queueSetpoints]; exact foldl_keeps (fun t : State => t.rot) _ (by intro b a; simp only [queueFor]; split <;> rfl) _ _
@[simp] theorem queueSetpoints_slu : (queueSetpoints s).slu = s.slu := by
  simp only [queueSetpoints]; exact foldl_keeps (fun t : State => t.slu) _ (by intro b a; simp only [queueFor]; split <;> rfl) _ _
@[simp] theorem queueSetpoints_tly : (queueSetpoints s).tly = s.tly := by
  simp only [queueSetpoints]; exact foldl_keeps (fun t : State => t.tly) _ (by intro b a; simp only [queueFor]; split <;> rfl) _ _
@[simp] theorem queueSetpoints_dck : (queueSetpoints s).dck = s.dck := by
  simp only [queueSetpoints]; exact foldl_keeps (fun t : State => t.dck) _ (by intro b a; simp only [queueFor]; split <;> rfl) _ _
@[simp] theorem queueSetpoints_grid : (queueSetpoints s).grid = s.grid := by
  simp only [queueSetpoints]; exact foldl_keeps (fun t : State => t.grid) _ (by intro b a; simp only [queueFor]; split <;> rfl) _ _
@[simp] theorem queueSetpoints_fleet : (queueSetpoints s).fleet = s.fleet := by
  simp only [queueSetpoints]; exact foldl_keeps (fun t : State => t.fleet) _ (by intro b a; simp only [queueFor]; split <;> rfl) _ _
@[simp] theorem queueSetpoints_pending : (queueSetpoints s).pending = s.pending := by
  simp only [queueSetpoints]; exact foldl_keeps (fun t : State => t.pending) _ (by intro b a; simp only [queueFor]; split <;> rfl) _ _
@[simp] theorem queueSetpoints_draws : (queueSetpoints s).draws = s.draws := by
  simp only [queueSetpoints]; exact foldl_keeps (fun t : State => t.draws) _ (by intro b a; simp only [queueFor]; split <;> rfl) _ _
@[simp] theorem queueSetpoints_dock (d : Dock) : (queueSetpoints s).dock d = s.dock d := by simp [State.dock]

/-- Queueing a SETPOINT changes nothing of the Dock Net Controller but the queued SETPOINTs and the mark of the frame in transmission. -/
theorem queueSetpoint_rest (f : Setpoint) (n : Dnc) (q : List Setpoint) (x : Option Transmission) :
    { n.queueSetpoint f with queuedSetpoints := q, sending := x } = { n with queuedSetpoints := q, sending := x } := by
  simp only [Dnc.queueSetpoint]; split <;> rfl

/-- Of the frame in transmission it changes the mark `superseded` alone (R166). -/
theorem queueSetpoint_sending (f : Setpoint) (n : Dnc) (b : Bool) :
    (n.queueSetpoint f).sending.map (fun t => { t with superseded := b }) = n.sending.map fun t => { t with superseded := b } := by
  simp only [Dnc.queueSetpoint]
  split
  · rfl
  · cases n.sending with
    | none => rfl
    | some t => simp only [Option.map_some, Transmission.supersedeSetpoint]; split <;> [split <;> rfl; rfl; rfl]

/-- Queueing the frames of a pass changes nothing of the Dock Net Controller but the queued SETPOINTs and the mark of the frame in
transmission. -/
theorem queueSetpoints_dnc (q : List Setpoint) (x : Option Transmission) :
    { (queueSetpoints s).dnc with queuedSetpoints := q, sending := x } = { s.dnc with queuedSetpoints := q, sending := x } := by
  have h : ∀ (b : State) (a : Dock), ({ (queueFor a b).dnc with queuedSetpoints := q, sending := x } : Dnc) =
      { b.dnc with queuedSetpoints := q, sending := x } := by
    intro b a
    simp only [queueFor]
    split
    · rw [State.mapDnc_dnc]; exact queueSetpoint_rest _ _ q x
    · rfl
  unfold queueSetpoints
  generalize Dock.all = l
  exact foldl_keeps (fun t : State => ({ t.dnc with queuedSetpoints := q, sending := x } : Dnc)) (fun t d => queueFor d t) h l s

/-- Of the frame in transmission it changes the mark `superseded` alone (R166). -/
theorem queueSetpoints_sending (b : Bool) :
    (queueSetpoints s).dnc.sending.map (fun t => { t with superseded := b }) = s.dnc.sending.map fun t => { t with superseded := b } := by
  have h : ∀ (u : State) (a : Dock), (queueFor a u).dnc.sending.map (fun t => { t with superseded := b }) =
      u.dnc.sending.map fun t => { t with superseded := b } := by
    intro u a
    simp only [queueFor]
    split
    · rw [State.mapDnc_dnc]; exact queueSetpoint_sending _ _ b
    · rfl
  unfold queueSetpoints
  generalize Dock.all = l
  exact foldl_keeps (fun t : State => t.dnc.sending.map fun t => { t with superseded := b }) (fun t d => queueFor d t) h l s

/-! ### The allocation pass (R79 to R102) -/

theorem handShortfall_frame (x : Nat) : { handShortfall x s with tly := s.tly } = s := rfl

/-- What a pass leaves as it is: the queue of events, the site limits, the clock, the Grid Link, the model's own fields. -/
@[simp] theorem runPass_evq : (runPass s).evq = s.evq := by simp only [runPass]; split <;> simp [handShortfall]
@[simp] theorem runPass_slu : (runPass s).slu = s.slu := by simp only [runPass]; split <;> simp [handShortfall]
@[simp] theorem runPass_dck : (runPass s).dck = s.dck := by simp only [runPass]; split <;> simp [handShortfall]
@[simp] theorem runPass_grid : (runPass s).grid = s.grid := by simp only [runPass]; split <;> simp [handShortfall]
@[simp] theorem runPass_pending : (runPass s).pending = s.pending := by simp only [runPass]; split <;> simp [handShortfall]
@[simp] theorem runPass_draws : (runPass s).draws = s.draws := by simp only [runPass]; split <;> simp [handShortfall]

/-- What the Allocator holds after a pass (R77, R78). -/
@[simp] theorem runPass_alc : (runPass s).alc = (passOutcome s).alc s.dck.uptime := by
  simp only [runPass]; split <;> simp [handShortfall]

/-- A pass changes of the Rotation Unit the yield count alone, and that only when it yields (R115). -/
@[simp] theorem runPass_rot : (runPass s).rot = if (passOutcome s).yielded then s.rot.countYield else s.rot := by
  simp only [runPass]; split <;> simp [handShortfall]

/-- A pass hands its shortfall to the open tally when an event is ACTIVE (R99, R144). -/
@[simp] theorem runPass_tly : (runPass s).tly =
    if (activeRecord s.evq).isSome then (handShortfall (passOutcome s).shortfall s).tly else s.tly := by
  by_cases h : (activeRecord s.evq).isSome = true <;> simp [runPass, h, handShortfall]

/-- Every record after a pass (R101). -/
@[simp] theorem runPass_dock (d : Dock) : (runPass s).dock d =
    (s.dock d).written ((passOutcome s).setpointOf d) ((passOutcome s).shareOf d) (passFloor s d) := by
  have h : ∀ t : State, t.docks = s.docks → (queueSetpoints (writeDocks s (passOutcome s)
      (applyShortBand (passOutcome s).handOver t))).dock d =
      (s.dock d).written ((passOutcome s).setpointOf d) ((passOutcome s).shareOf d) (passFloor s d) := by
    intro t ht
    rw [queueSetpoints_dock, writeDocks_dock, applyShortBand_dock]
    simp [State.dock, ht]
  simp only [runPass]
  split <;> exact h _ rfl

/-- The Route Plan Table after a pass: the holds on the short band (R42). -/
theorem runPass_rpt : (runPass s).rpt = (applyShortBand (passOutcome s).handOver s).rpt := by
  simp only [runPass]
  split <;> (rw [queueSetpoints_rpt, writeDocks_rpt, applyShortBand, applyShortBand, changeHolds_rpt, changeHolds_rpt]; try rfl)

/-! ### A cancel or a revise at the moment of an end or a start (R69, R72) -/

/-- No event's request goes first while none waits next. -/
theorem eventGoingFirst_of_none (h : nextEventNamed s = none) : eventGoingFirst s = none := by simp [eventGoingFirst, h]

/-- An event's request that goes first waits next. -/
theorem eventGoingFirst_some {id : Nat} (h : eventGoingFirst s = some id) :
    nextEventNamed s = some id ∧ Config.requestFirst s.draws = true := by
  simpa [eventGoingFirst, Option.filter_eq_some_iff] using h

/-- With no request going first, the end and then the start are taken. -/
@[simp] theorem takeReached_none : takeReached none s = startIfReached (endIfReached s) := by
  simp [takeReached, headNamed]

/-- What is taken of the end and the start reached, in full: nothing while the first record is the one named, the end alone when the record behind
it is, else both. -/
theorem takeReached_cases (first : Option Nat) :
    (headNamed first s = true ∧ takeReached first s = s) ∨
    (headNamed first s = false ∧ headNamed first (endIfReached s) = true ∧ takeReached first s = endIfReached s) ∨
    (headNamed first s = false ∧ headNamed first (endIfReached s) = false ∧ takeReached first s = startIfReached (endIfReached s)) := by
  cases h : headNamed first s <;> cases h1 : headNamed first (endIfReached s) <;> simp [takeReached, h, h1]

/-- With no end and no start reached a cancel or a revise leaves nothing behind it. -/
theorem takeAfterRequest_of_none (he : endReached s = none) (hs : startReached s = false) : takeAfterRequest s = s := by
  simp [takeAfterRequest, he, hs]

/-- What a cancel or a revise leaves behind it, in full: nothing reached and nothing done, or what is reached taken, but for what one more such
request goes before. -/
theorem takeAfterRequest_cases :
    (endReached s = none ∧ startReached s = false ∧ takeAfterRequest s = s) ∨
    (((endReached s).isSome = true ∨ startReached s = true) ∧ takeAfterRequest s = takeReached (eventGoingFirst s) s.drawn) := by
  by_cases h : ((endReached s).isSome || startReached s) = true
  · have h' : (endReached s).isSome = true ∨ startReached s = true := by simpa using h
    exact .inr ⟨h', by simp [takeAfterRequest, h']⟩
  · have h' : endReached s = none ∧ startReached s = false := by simpa using h
    exact .inl ⟨h'.1, h'.2, takeAfterRequest_of_none s h'.1 h'.2⟩

/-! ### A frame whose attempt is cut off (R166) -/

/-- A frame that has been withdrawn, or that a newer one has been queued for since, is dropped. -/
theorem returnFrame_dropped {n : Dnc} {t : Transmission} (h : n.sending = some t) (hd : t.withdrawn = true ∨ t.superseded = true) :
    n.returnFrame = { n with sending := none } := by
  rcases hd with hd | hd <;> simp [Dnc.returnFrame, h, hd]

end Sys2Proof.Machine
end

