-- ==== Sys2Proof/Laws/PerInstr.lean ====
section
/-! SUPPORT. A statement made per command: what the wire can carry of a command that is a request, its request body can carry too, on a
link whose set holds its kind. -/

namespace Sys2Proof.Laws.RequestFits

open Sys2Proof Sys2Proof.Machine

/-- A well-formed command that is a request fits the fields of its body and belongs to the set of its link (R183, R189, R191, R194). -/
def Statement (i : Instr) : Prop :=
  i.wellFormed = true → ∀ lq ∈ requestOf i, lq.2.fits = true ∧ lq.2.kind.permitted lq.1 = true

theorem deviceReset (tripLow : Bool) : Statement (.deviceReset tripLow) := by
  intro _ lq h; cases h

theorem status (source : Nat) (broadcast : Bool) (payload : List Byte) : Statement (.status source broadcast payload) := by
  intro _ lq h; cases h

theorem echoReply (source : Nat) (broadcast : Bool) (payload : List Byte) : Statement (.echoReply source broadcast payload) := by
  intro _ lq h; cases h

theorem foreignFrame : Statement (.foreignFrame) := by
  intro _ lq h; cases h

theorem frameInError (ackDriven : Bool) : Statement (.frameInError ackDriven) := by
  intro _ lq h; cases h

theorem transmitStart : Statement (.transmitStart) := by
  intro _ lq h; cases h

theorem arbitrationLost : Statement (.arbitrationLost) := by
  intro _ lq h; cases h

theorem transmitAttemptEnd (how : AttemptEnd) : Statement (.transmitAttemptEnd how) := by
  intro _ lq h; cases h

theorem recoveryTimerExpiry : Statement (.recoveryTimerExpiry) := by
  intro _ lq h; cases h

theorem echoWaitExpiry : Statement (.echoWaitExpiry) := by
  intro _ lq h; cases h

theorem reportTimeout (dock : Nat) : Statement (.reportTimeout dock) := by
  intro _ lq h; cases h

theorem silentGraceExpiry (dock : Nat) : Statement (.silentGraceExpiry dock) := by
  intro _ lq h; cases h

theorem allocationTimerExpiry : Statement (.allocationTimerExpiry) := by
  intro _ lq h; cases h

theorem tripAssertion : Statement (.tripAssertion) := by
  intro _ lq h; cases h

theorem tripRelease : Statement (.tripRelease) := by
  intro _ lq h; cases h

theorem holdoffExpiry : Statement (.holdoffExpiry) := by
  intro _ lq h; cases h

theorem uptimeSecond : Statement (.uptimeSecond) := by
  intro _ lq h; cases h

theorem depotSecond : Statement (.depotSecond) := by
  intro _ lq h; cases h

theorem dayRollover : Statement (.dayRollover) := by
  intro _ lq h; cases h

theorem planDue (vehicle : Nat) : Statement (.planDue vehicle) := by
  intro _ lq h; cases h

theorem eventStart : Statement (.eventStart) := by
  intro _ lq h; cases h

theorem eventEnd : Statement (.eventEnd) := by
  intro _ lq h; cases h

theorem settlementBoundary : Statement (.settlementBoundary) := by
  intro _ lq h; cases h

theorem halfHourBoundary : Statement (.halfHourBoundary) := by
  intro _ lq h; cases h

theorem overrideExpiry : Statement (.overrideExpiry) := by
  intro _ lq h; cases h

theorem intervalAExpiry : Statement (.intervalAExpiry) := by
  intro _ lq h; cases h

theorem intervalBExpiry : Statement (.intervalBExpiry) := by
  intro _ lq h; cases h

theorem meterExportPulse : Statement (.meterExportPulse) := by
  intro _ lq h; cases h

theorem meterImportPulse : Statement (.meterImportPulse) := by
  intro _ lq h; cases h

theorem goodFrame (link : Link) (kind : Byte) (body : List Byte) : Statement (.goodFrame link kind body) := by
  intro _ lq h; cases h

theorem badFrame (link : Link) : Statement (.badFrame link) := by
  intro _ lq h; cases h

theorem linkGapTimeout (link : Link) : Statement (.linkGapTimeout link) := by
  intro _ lq h; cases h

theorem quietTimerExpiry (link : Link) : Statement (.quietTimerExpiry link) := by
  intro _ lq h; cases h

theorem linkFrameSent (link : Link) : Statement (.linkFrameSent link) := by
  intro _ lq h; cases h

theorem unknownKindRequest (link : Link) (kind : Byte) : Statement (.unknownKindRequest link kind) := by
  intro _ lq h; cases h

theorem timeSet (t : Nat) : Statement (.timeSet t) := by
  intro w lq h
  obtain rfl := Option.some.inj h
  exact ⟨by simpa [Instr.wellFormed, Request.fits, fitsBytes] using w, rfl⟩

theorem timeTrim (d : Int) : Statement (.timeTrim d) := by
  intro w lq h
  obtain rfl := Option.some.inj h
  exact ⟨by simpa [Instr.wellFormed, Request.fits, fitsBytes] using w, rfl⟩

theorem headroomLoad (first : Nat) (daily : Bool) (values : List Nat) : Statement (.headroomLoad first daily values) := by
  intro w lq h
  obtain rfl := Option.some.inj h
  exact ⟨by simpa [Instr.wellFormed, Request.fits, fitsBytes] using w, rfl⟩

theorem headroomOverride (value expiry : Nat) : Statement (.headroomOverride value expiry) := by
  intro w lq h
  obtain rfl := Option.some.inj h
  exact ⟨by simpa [Instr.wellFormed, Request.fits, fitsBytes] using w, rfl⟩

theorem tripHoldoffSet (seconds : Nat) : Statement (.tripHoldoffSet seconds) := by
  intro w lq h
  obtain rfl := Option.some.inj h
  exact ⟨by simpa [Instr.wellFormed, Request.fits, fitsBytes] using w, rfl⟩

theorem dispatchCall (id start stop target minAccept : Nat) : Statement (.dispatchCall id start stop target minAccept) := by
  intro w lq h
  obtain rfl := Option.some.inj h
  exact ⟨by simpa [Instr.wellFormed, Request.fits, fitsBytes] using w, rfl⟩

theorem dispatchRevise (id target stop : Nat) : Statement (.dispatchRevise id target stop) := by
  intro w lq h
  obtain rfl := Option.some.inj h
  exact ⟨by simpa [Instr.wellFormed, Request.fits, fitsBytes] using w, rfl⟩

theorem dispatchCancel (id : Nat) : Statement (.dispatchCancel id) := by
  intro w lq h
  obtain rfl := Option.some.inj h
  exact ⟨by simpa [Instr.wellFormed, Request.fits, fitsBytes] using w, rfl⟩

theorem offerQuery (start stop : Nat) : Statement (.offerQuery start stop) := by
  intro w lq h
  obtain rfl := Option.some.inj h
  exact ⟨by simpa [Instr.wellFormed, Request.fits, fitsBytes] using w, rfl⟩

theorem resultQuery (id first : Nat) : Statement (.resultQuery id first) := by
  intro w lq h
  obtain rfl := Option.some.inj h
  exact ⟨by simpa [Instr.wellFormed, Request.fits, fitsBytes] using w, rfl⟩

theorem planLoad (vehicle departure energy : Nat) (afterEvent shortHoldOff : Bool) :
    Statement (.planLoad vehicle departure energy afterEvent shortHoldOff) := by
  intro w lq h
  obtain rfl := Option.some.inj h
  exact ⟨by simpa [Instr.wellFormed, Request.fits, fitsBytes] using w, rfl⟩

theorem planDelete (vehicle : Nat) : Statement (.planDelete vehicle) := by
  intro w lq h
  obtain rfl := Option.some.inj h
  exact ⟨by simpa [Instr.wellFormed, Request.fits, fitsBytes] using w, rfl⟩

theorem planQueryOne (vehicle : Nat) : Statement (.planQueryOne vehicle) := by
  intro w lq h
  obtain rfl := Option.some.inj h
  exact ⟨by simpa [Instr.wellFormed, Request.fits, fitsBytes] using w, rfl⟩

theorem planQueryPage (vehicle : Nat) : Statement (.planQueryPage vehicle) := by
  intro w lq h
  obtain rfl := Option.some.inj h
  exact ⟨by simpa [Instr.wellFormed, Request.fits, fitsBytes] using w, rfl⟩

theorem holdSetLockout (vehicle : Nat) : Statement (.holdSetLockout vehicle) := by
  intro w lq h
  obtain rfl := Option.some.inj h
  exact ⟨by simpa [Instr.wellFormed, Request.fits, fitsBytes] using w, rfl⟩

theorem holdSetHold (vehicle : Nat) : Statement (.holdSetHold vehicle) := by
  intro w lq h
  obtain rfl := Option.some.inj h
  exact ⟨by simpa [Instr.wellFormed, Request.fits, fitsBytes] using w, rfl⟩

theorem holdClear (vehicle : Nat) : Statement (.holdClear vehicle) := by
  intro w lq h
  obtain rfl := Option.some.inj h
  exact ⟨by simpa [Instr.wellFormed, Request.fits, fitsBytes] using w, rfl⟩

theorem parameterSet (id value : Nat) : Statement (.parameterSet id value) := by
  intro w lq h
  obtain rfl := Option.some.inj h
  exact ⟨by simpa [Instr.wellFormed, Request.fits, fitsBytes] using w, rfl⟩

theorem parameterQuery (id : Nat) : Statement (.parameterQuery id) := by
  intro w lq h
  obtain rfl := Option.some.inj h
  exact ⟨by simpa [Instr.wellFormed, Request.fits, fitsBytes] using w, rfl⟩

theorem rotationSet (yieldOn : Bool) (entries : List Nat) : Statement (.rotationSet yieldOn entries) := by
  intro w lq h
  obtain rfl := Option.some.inj h
  exact ⟨by simpa [Instr.wellFormed, Request.fits, fitsBytes] using w, rfl⟩

theorem groupSet (dock group : Nat) : Statement (.groupSet dock group) := by
  intro w lq h
  obtain rfl := Option.some.inj h
  exact ⟨by simpa [Instr.wellFormed, Request.fits, fitsBytes] using w, rfl⟩

theorem dockManual (dock : Nat) (value : Int) : Statement (.dockManual dock value) := by
  intro w lq h
  obtain rfl := Option.some.inj h
  exact ⟨by simpa [Instr.wellFormed, Request.fits, fitsBytes] using w, rfl⟩

theorem dockAuto (dock : Nat) : Statement (.dockAuto dock) := by
  intro w lq h
  obtain rfl := Option.some.inj h
  exact ⟨by simpa [Instr.wellFormed, Request.fits, fitsBytes] using w, rfl⟩

theorem dockEnable (dock : Nat) : Statement (.dockEnable dock) := by
  intro w lq h
  obtain rfl := Option.some.inj h
  exact ⟨by simpa [Instr.wellFormed, Request.fits, fitsBytes] using w, rfl⟩

theorem dockDisable (dock : Nat) : Statement (.dockDisable dock) := by
  intro w lq h
  obtain rfl := Option.some.inj h
  exact ⟨by simpa [Instr.wellFormed, Request.fits, fitsBytes] using w, rfl⟩

theorem dockClear (dock : Nat) : Statement (.dockClear dock) := by
  intro w lq h
  obtain rfl := Option.some.inj h
  exact ⟨by simpa [Instr.wellFormed, Request.fits, fitsBytes] using w, rfl⟩

theorem netRestart : Statement (.netRestart) := by
  intro w lq h
  obtain rfl := Option.some.inj h
  exact ⟨by simp [Request.fits], rfl⟩

theorem echoTest (dock count : Nat) : Statement (.echoTest dock count) := by
  intro w lq h
  obtain rfl := Option.some.inj h
  exact ⟨by simpa [Instr.wellFormed, Request.fits, fitsBytes] using w, rfl⟩

theorem echoQuery : Statement (.echoQuery) := by
  intro w lq h
  obtain rfl := Option.some.inj h
  exact ⟨by simp [Request.fits], rfl⟩

theorem queueQuery (link : Link) : Statement (.queueQuery link) := by
  intro w lq h
  obtain rfl := Option.some.inj h
  cases link <;> exact ⟨by simp [Request.fits, fitsBytes], rfl⟩

theorem queueQueryParticipants (link : Link) (first : Nat) : Statement (.queueQueryParticipants link first) := by
  intro w lq h
  obtain rfl := Option.some.inj h
  cases link <;> exact ⟨by simpa [Instr.wellFormed, Request.fits, fitsBytes] using w, rfl⟩

theorem siteQuery (link : Link) : Statement (.siteQuery link) := by
  intro w lq h
  obtain rfl := Option.some.inj h
  cases link <;> exact ⟨by simp [Request.fits], rfl⟩

theorem clockQuery (link : Link) : Statement (.clockQuery link) := by
  intro w lq h
  obtain rfl := Option.some.inj h
  cases link <;> exact ⟨by simp [Request.fits], rfl⟩

theorem linkQuery (link : Link) : Statement (.linkQuery link) := by
  intro w lq h
  obtain rfl := Option.some.inj h
  cases link <;> exact ⟨by simp [Request.fits], rfl⟩

theorem dockQuery (link : Link) (dock : Nat) : Statement (.dockQuery link dock) := by
  intro w lq h
  obtain rfl := Option.some.inj h
  cases link <;> exact ⟨by simp [Instr.wellFormed, Request.fits, fitsBytes] at w ⊢; exact w.1, rfl⟩

theorem dockQuerySummary (link : Link) : Statement (.dockQuerySummary link) := by
  intro w lq h
  obtain rfl := Option.some.inj h
  cases link <;> exact ⟨by simp [Request.fits, fitsBytes], rfl⟩

theorem syncByteBeginsFrame (link : Link) : Statement (.syncByteBeginsFrame link) := by
  intro _ lq h; cases h

end Sys2Proof.Laws.RequestFits
end

