-- ==== Sys2Proof/Safety.lean ====
section
/-! DEFINITION. What counts as a sound state: the ranges, presence rules and orderings the spec states of each block, as predicates
that the claims about steps use. -/

namespace Sys2Proof.Machine

open Sys2Proof

/-- Every waiting command can be carried by the wire. -/
def State.CommandsFit (s : State) : Prop := ∀ c ∈ s.pending, c.wellFormed = true

/-! ### Dock Table -/

/-- A vehicle id is bound to at most one dock record (R10). -/
def State.SingleBinding (s : State) : Prop :=
  ∀ d e : Dock, (s.dock d).vehicle.isSome = true → (s.dock d).vehicle = (s.dock e).vehicle → d = e

/-- Where the optional fields of a record are present (R1, R11, R13, R21), and the manual value within the ratings (R6, R26). -/
structure DockRecord.Consistent (r : DockRecord) : Prop where
  vehicle_states : r.vehicle.isSome = true → r.state = .bound ∨ r.state = .silent ∨ r.state = .faulted
  bound_vehicle : r.state = .bound → r.vehicle.isSome = true
  silent_since : r.silentSince.isSome = true ↔ r.state = .silent
  silent_prior : r.state = .silent → (r.prior = .bound ↔ r.vehicle.isSome = true)
  manual_present : r.manual.isSome = true ↔ r.steering = .manual
  manual_vehicle : r.steering = .manual → r.vehicle.isSome = true
  manual_rated : ∀ v ∈ r.manual, -(r.ratedIntake : Int) ≤ v ∧ v ≤ r.ratedExport
  cause_states : r.cause.isSome = true → r.state = .silent ∨ r.state = .faulted
  faulted_cause : r.state = .faulted → r.cause.isSome = true
  duplicate_vehicle : ∀ v, r.cause = some (.duplicateVehicle v) → r.vehicle = none

/-- The Dock Table is sound: every record consistent, no vehicle bound twice (R1, R10). -/
structure State.DocksOk (s : State) : Prop where
  records : ∀ d : Dock, (s.dock d).Consistent
  single : s.SingleBinding

/-! ### Route Plan Table -/

/-- The ranges of a plan entry, and a hold source present exactly at level HOLD (R29). -/
structure Plan.Consistent (p : Plan) : Prop where
  vehicle_range : 1 ≤ p.vehicle ∧ p.vehicle ≤ 65534
  departure_range : p.departure ≤ depotTimeMax
  energy_range : p.energy ≤ 4000
  source_present : p.source.isSome = true ↔ p.hold = .hold

/-- The Route Plan Table holds at most 64 entries in strictly ascending id order (R29). -/
structure State.PlansOk (s : State) : Prop where
  count : s.rpt.plans.length ≤ 64
  ascending : s.rpt.plans.Pairwise fun p q => p.vehicle < q.vehicle
  entries : ∀ p ∈ s.rpt.plans, p.Consistent

/-! ### Event Queue and Results List -/

/-- An event record: committed power from 10 up to what was accepted and called, a window of at least 300 s, an actual start present
exactly when ACTIVE and not before the start (R51, R54, R56, R70). -/
structure EventRecord.Consistent (r : EventRecord) : Prop where
  committed_low : 10 ≤ r.committed
  committed_high : r.committed ≤ r.committedInitial ∧ r.committedInitial ≤ r.target
  window : r.start + 300 ≤ r.stop
  active_start : r.actualStart.isSome = true ↔ r.state = .active
  started_late : ∀ a ∈ r.actualStart, r.start ≤ a

/-- The ids in use: those of the queue and of the Results List (R53). -/
def State.eventIds (s : State) : List Nat := s.evq.map EventRecord.id ++ s.tly.results.map Result.eventId

/-- The Event Queue and the Results List are sound: at most 8 records in strictly ascending start order with windows that do not
overlap, at most one ACTIVE, which is then the first (R52), the event tally open exactly while one is (R142), at most 6 results (R152),
no id twice (R53). -/
structure State.EventsOk (s : State) : Prop where
  count : s.evq.length ≤ 8
  ordered : s.evq.Pairwise fun a b => a.start < b.start ∧ a.stop ≤ b.start
  active_first : ∀ r ∈ s.evq.tail, r.state = .pending
  tally_open : s.tly.tally.isSome = true ↔ (activeRecord s.evq).isSome = true
  records : ∀ r ∈ s.evq, r.Consistent
  results : s.tly.results.length ≤ 6
  ids : s.eventIds.Nodup

/-! ### Dock Net Controller and trip line -/

/-- The Dock Net Controller is sound: the net state its counts give (R169), the ranges of R162, at most one SETPOINT per dock (R172),
in NET-OFF nothing queued or in transmission (R170), and an echo test that runs only in NET-ACTIVE with one ECHO queued, in
transmission or waited for at a time (R169, R176, R177). -/
structure State.NetOk (s : State) : Prop where
  state_active : s.dnc.net = .active → s.dnc.tec < 128 ∧ s.dnc.recCount < 128
  state_passive : s.dnc.net = .passive → (128 ≤ s.dnc.tec ∨ 128 ≤ s.dnc.recCount) ∧ s.dnc.tec ≤ 255
  state_off : s.dnc.net = .off → 255 < s.dnc.tec ∧ s.dnc.tec ≤ 263
  rec_range : s.dnc.recCount ≤ 255
  foreign_range : s.dnc.foreign ≤ 255
  one_setpoint : s.dnc.queuedSetpoints.Pairwise fun f g => f.dock ≠ g.dock
  off_empty : s.dnc.net = .off → s.dnc.framesQueued = 0 ∧ s.dnc.sending = none
  echo_active : s.dnc.echo.state = .running → s.dnc.net = .active
  echo_wait : s.dnc.echo.wait.isSome = true → s.dnc.echo.state = .running
  echo_queued : s.dnc.queuedEcho.isSome = true → s.dnc.echo.state = .running ∧ s.dnc.echo.wait = none
  echo_sent : ∀ x ∈ s.dnc.sending, x.withdrawn = false → (match x.frame with | .echo _ => true | .cease => false | .setpoint _ => false) = true →
    s.dnc.echo.state = .running ∧ s.dnc.echo.wait = none ∧ s.dnc.queuedEcho = none

/-- Outside NORMAL no queued SETPOINT carries anything but 0, and one in transmission that does will not be tried again (R128,
R173). -/
def State.TripQuiet (s : State) : Prop :=
  s.slu.trip ≠ .normal →
    (∀ f ∈ s.dnc.queuedSetpoints, f.value = 0) ∧
    (∀ x ∈ s.dnc.sending, (match x.frame with | .setpoint f => f.value | .cease => 0 | .echo _ => 0) ≠ 0 → x.withdrawn = true)

/-- EXPERM is asserted exactly while its three conditions hold (R132). -/
def State.ExpermOk (s : State) : Prop :=
  s.slu.experm = true ↔ s.slu.trip = .normal ∧ s.dck.running = true ∧ s.slu.tableValid = true

/-! ### Depot Clock -/

/-- The ranges of the Depot Clock; while UNSET depot time and its divider hold 0 (R154, R155, R156). -/
structure State.ClockOk (s : State) : Prop where
  depot_range : s.dck.depotTime ≤ depotTimeMax
  depot_divider : s.dck.depotDivider < 32768
  uptime_range : s.dck.uptime < wordModulus
  uptime_divider : s.dck.uptimeDivider < 32768
  unset : s.dck.running = false → s.dck.depotTime = 0 ∧ s.dck.depotDivider = 0

/-! ### Link ports -/

/-- A link port is sound: the ranges of R180, the quiet timer running exactly in LOCKED and no notice kept in QUIET (R181), the first
request of the holding taken (R182), and a transmitter that is idle only when it has nothing to send (R184). -/
structure Port.Consistent (p : Port) : Prop where
  bad_run : p.badRun ≤ 3 ∧ (p.lock = .hunt → p.badRun = 0)
  quiet_timer : p.quietTimer.isSome = true ↔ p.lock = .locked
  counts : p.badFrames ≤ 255 ∧ p.overruns ≤ 255 ∧ p.droppedNotices ≤ 255
  holding_count : p.holding.length ≤ 2
  notice_count : p.notices.length ≤ 8
  quiet_empty : p.lock = .quiet → p.notices = []
  first_taken : ∀ h ∈ p.holding.head?, h.answer.isSome = true
  busy : p.sending = none → p.holding = [] ∧ (p.lock = .locked → p.notices = [])

/-- Both ports are sound. -/
def State.PortsOk (s : State) : Prop := s.grid.Consistent ∧ s.fleet.Consistent

end Sys2Proof.Machine
end

