-- ==== Sys2Proof/Certificates/Slice0/Obligations.lean ====
section
/-! DEFINITION. The statements about the model, for the provers. The helpers at the head give names to wire fields, to a request taken and
an answer formed on a link, to sums over the docks, and to what a rule computes where several statements use it. -/

namespace Sys2Proof.Machine

open Sys2Proof

/-- A two-byte unsigned field, low byte first (spec 4.6). -/
def u16 (lo hi : Byte) : Nat := lo.toNat + 256 * hi.toNat

/-- A two-byte signed field, low byte first (spec 4.6, R168). -/
def s16 (lo hi : Byte) : Int := if u16 lo hi < 32768 then u16 lo hi else (u16 lo hi : Int) - 65536

/-- A four-byte unsigned field, low byte first (spec 4.6). -/
def u32 (a b c d : Byte) : Nat := u16 a b + 65536 * u16 c d

/-- A value as two bytes, low byte first (spec 4.6). -/
def le16 (v : Nat) : List Byte := [BitVec.ofNat 8 v, BitVec.ofNat 8 (v / 256)]

/-- A value as four bytes, low byte first (spec 4.6). -/
def le32 (v : Nat) : List Byte :=
  [BitVec.ofNat 8 v, BitVec.ofNat 8 (v / 256), BitVec.ofNat 8 (v / 65536), BitVec.ofNat 8 (v / 16777216)]

/-- A two-valued flag as one byte (R188). -/
def flagByte (b : Bool) : Byte := if b then 1 else 0

/-- The state in which a request of a KIND and a BODY is taken on a link: it stands untaken in the holding when that is empty (R182, log 9). -/
def State.holdingRequest (s : State) (l : Link) (kind : Byte) (body : List Byte) : State :=
  s.mapPort l fun p =>
    { p with holding := if p.holding = [] then [{ request := { kind := kind, body := body }, answer := none }] else p.holding }

/-- The state in which the request of a request row is taken on its link (log 9). -/
def State.asked (s : State) (c : Instr) : State :=
  match requestOf c with
  | some lq => s.holdingRequest lq.1 lq.2.kind.code lq.2.body
  | none => s

/-- The state with an answer of a KIND and a BODY formed on a link (R182 step 3, R184): it answers the untaken first request of the holding, and
an idle transmitter sends it. Behind an earlier request it is only the last answer (log 9). -/
def State.answering (s : State) (l : Link) (kind : Byte) (body : List Byte) : State :=
  let a : LinkFrame := { kind := kind, body := body }
  s.mapPort l fun p =>
    match p.holding with
    | { request := f, answer := none } :: rest =>
      { p with
        lastAnswer := some a, holding := { request := f, answer := some a } :: rest
        sending := match p.sending with | some o => some o | none => some (.answer a) }
    | _ => { p with lastAnswer := some a }

/-- A plan entry as the links carry it (R191): vehicle, departure, energy, plan state (WAITING 0, DUE 1, DEPARTED 2), hold level (NONE 0, HOLD 1,
LOCKOUT 2), hold source (MANUAL 0, AUTO 1, 255 when absent), pending hold, after-event flag, short-hold off flag. -/
def planEntry (p : Plan) : List Byte :=
  le16 p.vehicle ++ le32 p.departure ++ le16 p.energy ++
    [match p.state with | .waiting => 0 | .due => 1 | .departed => 2, match p.hold with | .none => 0 | .hold => 1 | .lockout => 2,
      match p.source with | some .manual => 0 | some .auto => 1 | none => 255,
      flagByte p.pendingHold, flagByte p.afterEvent, flagByte p.shortHoldOff]

/-- A queue record as the links carry it (R194): id, start, end, call target, committed initial, committed, state, actual start. -/
def queueRecord (r : EventRecord) : List Byte :=
  le16 r.id ++ le32 r.start ++ le32 r.stop ++ le16 r.target ++ le16 r.committedInitial ++ le16 r.committed ++
    [if r.state = .active then 1 else 0, flagByte r.actualStart.isSome] ++ le32 (r.actualStart.getD 0)

/-- The end or the start that a cancel or a revise was taken before is taken after it, as EVENT_END and EVENT_START take them; one more such
request that waits may come before that of the record it names still, as the free value has it (R69, R72, log 35). -/
def takenAfter (u : State) : State :=
  let reached := u.evq.head?.any fun r =>
    decide (r.state = .active ∧ r.stop ≤ u.dck.depotTime) || decide (r.state = .pending ∧ r.start ≤ u.dck.depotTime)
  let first := (nextEventNamed u).filter fun _ => Config.requestFirst u.draws
  
  let v : State := { u with draws := u.draws + 1 }
  if reached = false then u
  else if first.any (fun i => v.evq.head?.any fun r => r.id == i) then v
  else
    match exec .eventEnd v with
    | .next w =>
      if first.any (fun i => w.evq.head?.any fun r => r.id == i) then w
      else (match exec .eventStart w with | .next x => x | .fault _ => w | .refused _ => w)
    | .fault _ => v
    | .refused _ => v

/-- The sum of a figure over the forty docks. -/
def sumDocks (f : Dock → Int) : Int := (Dock.all.map f).sum

/-- The command that carries a STATUS of the dock `d` with the 22 payload bytes `b` (R168). -/
def statusOf (d : Dock) (broadcast : Bool) (b : Fin 22 → Byte) : Instr := .status d.addr broadcast (List.ofFn b)

/-- A record FAULTED and waiting for the vehicle u (R12). -/
def waitsFor (u : Nat) (r : DockRecord) : Bool := decide (r.state = .faulted ∧ r.cause = some (.duplicateVehicle u))

/-- The lowest dock waiting for the vehicle u (R12). -/
def firstWaiting (u : Nat) (s : State) : Option Dock := Dock.all.find? fun e => waitsFor u (s.dock e)

/-- The plan entries after the release of the vehicle u: its DUE entry becomes DEPARTED (R33). -/
def departed (u : Nat) (plans : List Plan) : List Plan :=
  plans.map fun p => if p.vehicle = u ∧ p.state = .due then { p with state := .departed } else p

/-- The state after the release of the vehicle u from the dock d (R11, R12, R33): its notice shows the record as it stands, the plan departs, and
the lowest dock waiting for u takes it. -/
def released (d : Dock) (u : Nat) (s : State) : State :=
  let r := s.dock d
  let s1 := { s.setDock d { r with vehicle := none, steering := .allocator, manual := none } with
    rpt := { s.rpt with plans := departed u s.rpt.plans }
    fleet := s.fleet.raise (.dock d .released r.state u r.cause) }
  match firstWaiting u s with
  | none => s1
  | some w =>
    { s1.setDock w { s.dock w with state := .bound, vehicle := some u, cause := none, cleanCount := 0, phaseMismatch := 0, powerMismatch := 0 } with
      fleet := s1.fleet.raise (.dock w .bound .bound u none) }

/-- The plan entry of a vehicle that enters the floor arithmetic: not DEPARTED, with the clock RUNNING (R46). -/
def plannedEntry (s : State) (v : Nat) : Option Plan :=
  if s.dck.running then (s.rpt.plans.find? fun p => decide (p.vehicle = v)).filter fun p => decide (p.state ≠ .departed) else none

/-- The charge goal of the vehicle v at a dock (R46, R47, R50). -/
def goalOf (s : State) (d : Dock) (v : Nat) : Nat :=
  match plannedEntry s v with
  | none => (s.dock d).capacity
  | some p => min ((p.energy * (100 + s.rpt.margin) + 99) / 100) (s.dock d).capacity

/-- The reserve floor of the vehicle v at a dock, with charge-from t (R46 to R49). -/
def floorOf (s : State) (d : Dock) (v t : Nat) : Nat :=
  let r := s.dock d
  match plannedEntry s v with
  | none => r.capacity
  | some p =>
    let seconds := if p.state = .due then 0 else p.departure - t - s.rpt.readyLead
    let recharge := min r.ratedIntake s.rpt.planningIntake * seconds * s.rpt.planningEfficiency / 360000
    min (max ((r.capacity * s.rpt.keep + 99) / 100) (goalOf s d v - recharge)) r.capacity

/-- H_now: the headroom in force (R122). -/
def headroomNow (s : State) : Nat :=
  if s.dck.running = false ∨ s.slu.tableValid = false then 0
  else match s.slu.limit with
    | some o => o.value
    | none => s.slu.table[s.dck.depotTime % 86400 / 1800]?.getD 0

/-- A tally with its interval in progress judged over a length in seconds, with the meter weight w (R146, R147); a length of 0 is not judged. -/
def judged (w length : Nat) (y : Tally) : Tally :=
  let i := y.interval
  let target : Int := ((i.committed * length / 36 : Nat) : Int)
  let net : Int := (i.dockExport : Int) - i.dockIntake
  let delivered := if 0 < w then i.meterNet else net
  let percent := if target = 0 then (if 0 ≤ delivered then 100 else 0) else (max 0 (min 100 (delivered * 100 / target))).toNat
  if length = 0 then y
  else { y with
    intervalsTotal := y.intervalsTotal + 1
    intervalsMet := y.intervalsMet + (if target * 95 ≤ delivered * 100 then 1 else 0)
    worst := some (match y.worst with | some x => min x percent | none => percent)
    divergent := y.divergent +
      (if 0 < w ∧ 15 * (max (max (i.meterNet.natAbs : Int) net.natAbs) 1000) < ((i.meterNet - net).natAbs : Int) * 100 then 1 else 0) }

/-- An interval opened at a depot time with a committed power (R142, R148). -/
def openedAt (t committed : Nat) : Interval := { start := t, committed := committed, meterNet := 0, dockExport := 0, dockIntake := 0 }

end Sys2Proof.Machine

open Sys2Proof Sys2Proof.Machine

/-! ### Steps, the queue of commands, and who moves what -/

/-- One step with a command at the front of the queue is that command on the state with the queue's rest (log 2). -/
def Obligations.StepTakesTheFrontCommand : Prop :=
  ∀ (c : Instr) (s : State),
    step { s with pending := c :: s.pending } = exec c s

/-- DESIGN CHOICE (log 3): with no command waiting a step is one period of the 32.768 kHz time base. While nothing comes due it moves the
dividers and a running echo wait on by one; the 32768th period is an uptime second, and a counted depot second while the clock counts. -/
def Obligations.IdleStepIsOnePeriod : Prop :=
  ∀ (s : State),
    s.pending = [] →
    (s.dck.uptimeDivider < 32767 →
      (s.dck.running = true ∧ s.dck.depotTime < 4000000000 → s.dck.depotDivider < 32767) →
      (¬(s.dck.running = true ∧ s.dck.depotTime < 4000000000) → s.dck.depotDivider < 32768) →
      s.dnc.echo.wait ≠ some 0 → s.dnc.echo.wait ≠ some 1 →
      step s = .next { s with
        dck := { s.dck with
          uptimeDivider := s.dck.uptimeDivider + 1
          depotDivider := if s.dck.running = true ∧ s.dck.depotTime < 4000000000 then s.dck.depotDivider + 1 else s.dck.depotDivider }
        dnc := { s.dnc with echo := { s.dnc.echo with wait := s.dnc.echo.wait.map fun n => n - 1 } } }) ∧
    (s.dck.uptimeDivider = 32767 →
      ∃ t, step s = .next t ∧ t.dck.uptime = (s.dck.uptime + 1) % 4294967296 ∧ t.dck.uptimeDivider = 0) ∧
    (s.dck.depotDivider = 32767 → s.dck.running = true → s.dck.depotTime < 4000000000 →
      ∃ t, step s = .next t ∧ t.dck.depotTime = s.dck.depotTime + 1 ∧ t.dck.depotDivider = 0)

/-- DESIGN CHOICE: every command, with every operand and in every state, completes in a next state, since operands beyond the wire's are taken
too (log 23), an expiry or a moment whose condition does not hold changes nothing (log 7), and states that no run reaches have a meaning (log
21). None touches the queue of waiting commands, which is the model's own (log 2) and which DEVICE_RESET keeps (log 29). -/
def Obligations.EveryCommandCompletesAndKeepsTheQueue : Prop :=
  ∀ (c : Instr) (s : State),
    ∃ t, exec c s = .next t ∧ t.pending = s.pending

/-- Which commands can change the clock, and which can change the trip state, and how (R127, R129, R130, R155 to R158): an assertion enters
TRIPPED, a release leads from TRIPPED to HOLDOFF, and the hold-off's expiry, by itself or in an uptime second, from HOLDOFF to NORMAL; no frame
on a link moves the trip state, and none on the Fleet Link the clock. -/
def Obligations.OnlyTheseCommandsMoveClockAndTripState : Prop :=
  ∀ (c : Instr) (s : State),
    ∃ t, exec c s = .next t ∧
      (t.dck ≠ s.dck →
        (match c with
          | .deviceReset _ => true
          | .uptimeSecond => true
          | .depotSecond => true
          | .timeSet _ => true
          | .timeTrim _ => true
          | .goodFrame l _ _ => decide (l = .grid)
          | .linkFrameSent l => decide (l = .grid)
          | _ => false) = true) ∧
      (t.slu.trip ≠ s.slu.trip →
        (match c with
          | .deviceReset _ => true
          | .tripAssertion => decide (t.slu.trip = .tripped)
          | .tripRelease => decide (s.slu.trip = .tripped ∧ t.slu.trip = .holdoff)
          | .holdoffExpiry => decide (s.slu.trip = .holdoff ∧ t.slu.trip = .normal)
          | .uptimeSecond => decide (s.slu.trip = .holdoff ∧ t.slu.trip = .normal)
          | _ => false) = true) ∧
      (s.slu.trip = .normal → t.slu.trip ≠ .normal →
        (match c with
          | .deviceReset _ => true
          | .tripAssertion => true
          | _ => false) = true) ∧
      (s.slu.trip ≠ .normal → t.slu.trip = .normal →
        s.slu.trip = .holdoff ∧
        (match c with
          | .holdoffExpiry => true
          | .uptimeSecond => true
          | _ => false) = true)

/-! ### Invariants every step keeps -/

/-- R10: a vehicle id is bound to at most one dock record at any moment; and every record stays consistent (R1, R6, R11, R13, R21). -/
def Obligations.StepKeepsTheDockTableSound : Prop :=
  ∀ (s t : State),
    s.DocksOk → step s = .next t → t.DocksOk

/-- R29: at most 64 plan entries, in strictly ascending id order, each within its ranges; the waiting commands fit the wire. -/
def Obligations.StepKeepsThePlanTableSound : Prop :=
  ∀ (s t : State),
    s.CommandsFit → s.PlansOk → step s = .next t → t.CommandsFit ∧ t.PlansOk

/-- R52, R53, R54, R142: at most eight records in start order with windows that do not overlap, at most one ACTIVE, which is then the first, and
a tally open exactly while one is; no event id twice across queue and results; committed power from 10 up to the call's target. A record that
stays never has its committed power raised nor its end moved later (R54, R70), keeps start and target, and stays ACTIVE once it is. DESIGN CHOICE
(log 34): that the ACTIVE record stays first rests on a call ahead of it being refused OVERLAP. -/
def Obligations.StepKeepsTheEventQueueSound : Prop :=
  ∀ (s t : State),
    s.EventsOk → step s = .next t → t.EventsOk ∧
      (∀ r ∈ s.evq, ∀ q ∈ t.evq, q.id = r.id →
        q.committed ≤ r.committed ∧ q.stop ≤ r.stop ∧ q.start = r.start ∧ q.target = r.target ∧ q.committedInitial = r.committedInitial ∧
        (r.state = .active → q.state = .active ∧ q.actualStart = r.actualStart))

/-- R169, R172, R176 of the Dock Net Controller, and R128: outside NORMAL nothing but 0 is queued for a dock, and a frame in transmission that
carries more will not be tried again. -/
def Obligations.StepKeepsTheDockNetSoundAndQuietInATrip : Prop :=
  ∀ (s t : State),
    s.NetOk → s.TripQuiet → step s = .next t → t.NetOk ∧ t.TripQuiet

/-- R132 (EXPERM is asserted exactly while its three conditions hold) and the ranges of the clock (R154 to R156). -/
def Obligations.StepKeepsExpermAndTheClockSound : Prop :=
  ∀ (s t : State),
    s.ExpermOk → s.ClockOk → step s = .next t → t.ExpermOk ∧ t.ClockOk

/-- R180 to R182, R184, R185: both link ports stay within their ranges, hold at most two requests and eight notices, take the first request, keep
no notice in QUIET, and idle only when they have nothing to send. -/
def Obligations.StepKeepsTheLinkPortsSound : Prop :=
  ∀ (s t : State),
    s.PortsOk → step s = .next t → t.PortsOk

/-! ### Reset -/

/-- The values every block holds after a device reset, for either level of TRIPn (R2, R30, R52, R77, R105, R126, R135, R140, R142, R152, R154,
R162, R180). -/
def Obligations.DeviceResetLeavesTheResetValues : Prop :=
  ∀ (tripLow : Bool) (s : State),
    ∃ t, exec (.deviceReset tripLow) s = .next t ∧
      (∀ d : Dock,
        (t.dock d).state = .absent ∧ (t.dock d).vehicle = none ∧ (t.dock d).prior = .vacant ∧ (t.dock d).silentSince = none ∧
        (t.dock d).stored = 0 ∧ (t.dock d).capacity = 0 ∧ (t.dock d).ratedExport = 0 ∧ (t.dock d).ratedIntake = 0 ∧
        (t.dock d).measured = 0 ∧ (t.dock d).setpoint = 0 ∧ (t.dock d).share = 0 ∧ (t.dock d).floor = 0 ∧
        (t.dock d).steering = .allocator ∧ (t.dock d).manual = none ∧ (t.dock d).group.val = (d.addr - 1) % 4 ∧
        (t.dock d).cause = none ∧ (t.dock d).cleanCount = 0 ∧ (t.dock d).phaseMismatch = 0 ∧ (t.dock d).powerMismatch = 0 ∧
        (t.dock d).missedAck = 0 ∧ (t.dock d).phaseAcked = false ∧ (t.dock d).lastReport = 0 ∧ (t.dock d).exportBase = 0 ∧
        (t.dock d).intakeBase = 0 ∧ (t.dock d).dayThroughput = 0 ∧ (t.dock d).restartCount = 0 ∧ (t.dock d).jumpCount = 0 ∧
        t.dnc.phaseOf d = false) ∧
      t.rpt = { plans := [], margin := 10, keep := 20, planningIntake := 192, planningEfficiency := 92, readyLead := 900, shortBand := 50 } ∧
      t.evq = [] ∧
      t.alc = { previousNet := 0, previousIntake := 0, previousPass := 0, lastShortfall := 0, lastYield := false } ∧
      t.rot.list = [] ∧ t.rot.yieldOn = false ∧ t.rot.pendingSetting = none ∧ t.rot.cursor = 0 ∧ t.rot.state = .off ∧ t.rot.aTimer = none ∧
      t.rot.bTimer = none ∧ t.rot.yieldCount = 0 ∧ t.rot.intervalA = 900 ∧ t.rot.intervalB = 300 ∧
      (∀ i : Fin 48, t.slu.table[i] = 0) ∧ t.slu.tableValid = false ∧ t.slu.daily = false ∧ t.slu.limit = none ∧ t.slu.intakeCeiling = 2000 ∧
      t.slu.rampRate = 500 ∧ t.slu.holdoff = 60 ∧ t.slu.tripCount = 0 ∧ t.slu.tripSeconds = 0 ∧ t.slu.experm = false ∧
      t.slu.lineAsserted = tripLow ∧ t.slu.trip = (if tripLow then .tripped else .holdoff) ∧
      t.slu.holdoffTimer = (if tripLow then none else some 60) ∧
      t.tly.siteExport = 0 ∧ t.tly.siteImport = 0 ∧ t.tly.meterWeight = 100 ∧ t.tly.tally = none ∧ t.tly.results = [] ∧ t.tly.resultsLost = 0 ∧
      t.dck.running = false ∧ t.dck.depotTime = 0 ∧ t.dck.depotDivider = 0 ∧ t.dck.uptime = 0 ∧ t.dck.uptimeDivider = 0 ∧
      t.dck.lastChange = .none ∧ t.dck.lastChangeUptime = 0 ∧
      t.dnc.net = .active ∧ t.dnc.tec = 0 ∧ t.dnc.recCount = 0 ∧ t.dnc.foreign = 0 ∧ t.dnc.framesQueued = 0 ∧ t.dnc.sending = none ∧
      t.dnc.recoveryTimer = none ∧
      t.dnc.echo = { state := .idle, dock := 0, count := 0, sequence := 0, matched := 0, mismatched := 0, missed := 0, wait := none } ∧
      (t.grid.lock = .hunt ∧ t.grid.badRun = 0 ∧ t.grid.quietTimer = none ∧ t.grid.badFrames = 0 ∧ t.grid.overruns = 0 ∧
        t.grid.droppedNotices = 0 ∧ t.grid.holding = [] ∧ t.grid.notices = [] ∧ t.grid.sending = none ∧ t.grid.withinFrame = false) ∧
      (t.fleet.lock = .hunt ∧ t.fleet.badRun = 0 ∧ t.fleet.quietTimer = none ∧ t.fleet.badFrames = 0 ∧ t.fleet.overruns = 0 ∧
        t.fleet.droppedNotices = 0 ∧ t.fleet.holding = [] ∧ t.fleet.notices = [] ∧ t.fleet.sending = none ∧ t.fleet.withinFrame = false)

/-- Every invariant that a step keeps holds after a reset that ended with TRIPn at either level, State.reset (log 1) included. -/
def Obligations.EveryBlockIsSoundAfterReset : Prop :=
  ∀ (tripLow : Bool),
    (State.afterReset tripLow).DocksOk ∧ (State.afterReset tripLow).PlansOk ∧ (State.afterReset tripLow).EventsOk ∧
    (State.afterReset tripLow).NetOk ∧ (State.afterReset tripLow).TripQuiet ∧ (State.afterReset tripLow).ExpermOk ∧
    (State.afterReset tripLow).ClockOk ∧ (State.afterReset tripLow).PortsOk ∧ (State.afterReset tripLow).CommandsFit ∧
    State.reset = State.afterReset false

/-! ### Encodings -/

/-- What a master sends for a request is read back as that request, with every field at every value its bytes can carry, on each link whose set
holds its kind (R183, R188 to R195). -/
def Obligations.RequestBodiesReadBack : Prop :=
  ∀ (l : Link) (q : Request),
    q.fits = true → q.kind.permitted l = true →
      readRequest l q.kind.code q.body = .ok q ∧ q.body.length ≤ 249

/-- A link frame is read back from its bytes (R179), and a Dock Net frame from its levels, start to end (R163). A dominant level in ack delimiter
or end, a wrong check, a seventh equal level and a length above 24 make it a frame in error (R163), its ack slot driven only after a good check
(R167), and FRAME_IN_ERROR carries whether it was. What the DNC reads back of its own frame decides the attempt: the first level that differs
loses the arbitration or is a transmit error by where it stands (R163 to R165; DEDUCED, log 38: a stuffed bit stands where the next bit does, and
the start bit names no error). The line is idle after 11 recessive levels. -/
def Obligations.FramesReadBackFromTheirLines : Prop :=
  (∀ f : LinkFrame, f.body.length ≤ 249 → receiveWire f.wire = some f) ∧
  (∀ f : NetWire, f.priority < 4 → f.source < 64 → f.destination < 64 → f.payload.length ≤ 24 →
    ∀ (ack b : Bool) (check rest : List Bool) (i n : Nat),
      receiveLevels (stuff f.bits ++ ack :: List.replicate 9 true ++ rest) = .whole f ∧
      (i < 9 → receiveLevels (stuff f.bits ++ ack :: (List.replicate i true ++ false :: rest)) =
        .inError (f.accepted && decide (f.destination = 0))) ∧
      (check.length = 16 → check ≠ f.checkBits → receiveLevels (stuff (false :: f.coveredBits ++ check) ++ rest) = .inError false) ∧
      (6 ≤ n → n < (stuff f.bits).length → ((stuff f.bits).take n).drop (n - 6) = List.replicate 6 b →
        receiveLevels ((stuff f.bits).take n ++ b :: rest) = .inError false) ∧
      (24 < n → n < 32 → receiveLevels (stuff (false :: f.headerBits ++ numberBits 5 n) ++ rest) = .inError false)) ∧
  (∀ (f : NetFrame) (rest : List Bool),
    f.line = stuff f.wire.bits ++ List.replicate 10 true ∧
    f.attempt (f.line ++ rest) = .transmitAttemptEnd (.wholeFrame false) ∧
    (∀ (before after : List (Bool × Zone)) (d : Bool) (z : Zone), f.driven = before ++ (d, z) :: after →
      (z = .ackSlot → f.attempt (before.map Prod.fst ++ false :: (after.map Prod.fst ++ rest)) = .transmitAttemptEnd (.wholeFrame true)) ∧
      (z = .arbitration → f.attempt (before.map Prod.fst ++ (!d) :: rest) =
        (if d then .arbitrationLost else .transmitAttemptEnd .transmitError)) ∧
      (z = .body → f.attempt (before.map Prod.fst ++ (!d) :: rest) = .transmitAttemptEnd .transmitError))) ∧
  (∀ driven : Bool, (LineFrame.inError driven).command = .frameInError driven) ∧
  (∀ (latest : List Bool) (i : Nat),
    lineIdle (List.replicate 11 true ++ latest) = true ∧ (i < 11 → lineIdle (List.replicate i true ++ false :: latest) = false))


/-! ### STATUS (R5 to R18, R136 to R138, R167, R168) -/

/-- R5, R6, R167, R168: a STATUS reaching a DISABLED record is acknowledged and dropped; in any other state the reported values are taken through
the clamps, the report timeout restarts, setpoint, share, floor and group stay, and of the other records only what a binding or a release reaches
can change. -/
def Obligations.StatusIsDroppedOrRecorded : Prop :=
  ∀ (d : Dock) (bc : Bool) (b : Fin 22 → Byte) (s : State),
    s.dnc.net ≠ .off →
    ((s.dock d).state = .disabled →
      ∃ t, exec (statusOf d bc b) s = .next t ∧
        t.docks = s.docks ∧ t.tly = s.tly ∧ t.rpt = s.rpt ∧ t.evq = s.evq ∧ t.alc = s.alc ∧ t.rot = s.rot ∧ t.slu = s.slu ∧ t.dck = s.dck ∧
        t.grid = s.grid ∧ t.dnc.ackDriven = (!bc) ∧ t.dnc.recCount = s.dnc.recCount - 1 ∧ t.dnc.tec = s.dnc.tec ∧
        t.dnc.foreign = s.dnc.foreign) ∧
    ((s.dock d).state ≠ .disabled → s.NetOk →
      ∃ t, exec (statusOf d bc b) s = .next t ∧
        (t.dock d).capacity = min (u16 (b 4) (b 5)) 4000 ∧
        (t.dock d).stored = min (u16 (b 2) (b 3)) (min (u16 (b 4) (b 5)) 4000) ∧
        (t.dock d).measured = max (-600) (min 600 (s16 (b 6) (b 7))) ∧
        (t.dock d).ratedExport = min (u16 (b 8) (b 9)) 600 ∧
        (t.dock d).ratedIntake = min (u16 (b 10) (b 11)) 600 ∧
        ((t.dock d).steering = .manual →
          (t.dock d).manual = (s.dock d).manual.map fun v =>
            max (-((min (u16 (b 10) (b 11)) 600 : Nat) : Int)) (min ((min (u16 (b 8) (b 9)) 600 : Nat) : Int) v)) ∧
        (t.dock d).lastReport = s.dck.uptime ∧ (t.dock d).setpoint = (s.dock d).setpoint ∧ (t.dock d).share = (s.dock d).share ∧
        (t.dock d).floor = (s.dock d).floor ∧ (t.dock d).group = (s.dock d).group ∧ (t.dock d).phaseAcked = (s.dock d).phaseAcked ∧
        (t.dock d).missedAck = (s.dock d).missedAck ∧
        (∀ e : Dock, e ≠ d →
          t.dock e = { s.dock e with
            state := (t.dock e).state, vehicle := (t.dock e).vehicle, prior := (t.dock e).prior, steering := (t.dock e).steering,
            manual := (t.dock e).manual, cause := (t.dock e).cause, cleanCount := (t.dock e).cleanCount,
            phaseMismatch := (t.dock e).phaseMismatch, powerMismatch := (t.dock e).powerMismatch }) ∧
        t.evq = s.evq ∧ t.alc = s.alc ∧ t.rot = s.rot ∧ t.slu = s.slu ∧ t.dck = s.dck ∧ t.grid = s.grid ∧
        t.dnc.phase = s.dnc.phase ∧ t.dnc.queuedCease = s.dnc.queuedCease ∧ t.dnc.queuedSetpoints = s.dnc.queuedSetpoints ∧
        t.dnc.tec = s.dnc.tec ∧ t.dnc.recCount = s.dnc.recCount - 1 ∧ t.dnc.foreign = s.dnc.foreign ∧ t.dnc.ackDriven = (!bc))

/-- R136, R137, R138, R143: the counters of a STATUS become deltas, clipped to the plausibility limit and credited to day throughput, the open
tally, its interval and the vehicle bound when the frame arrives; a first report after absence only sets the baselines. Sums beyond 32 bits are
left out (log 11). -/
def Obligations.StatusCountersBecomeCreditedDeltas : Prop :=
  ∀ (d : Dock) (bc : Bool) (b : Fin 22 → Byte) (s : State),
    s.dnc.net ≠ .off →
    ((s.dock d).state = .absent →
      ∃ t, exec (statusOf d bc b) s = .next t ∧
        (t.dock d).exportBase = u32 (b 12) (b 13) (b 14) (b 15) ∧ (t.dock d).intakeBase = u32 (b 16) (b 17) (b 18) (b 19) ∧
        (t.dock d).dayThroughput = (s.dock d).dayThroughput ∧ (t.dock d).restartCount = (s.dock d).restartCount ∧
        (t.dock d).jumpCount = (s.dock d).jumpCount ∧ t.tly = s.tly) ∧
    ((s.dock d).state ≠ .disabled → (s.dock d).state ≠ .absent →
      let r := s.dock d
      let elapsed := max 1 ((s.dck.uptime + 4294967296 - r.lastReport) % 4294967296)
      let exported := u32 (b 12) (b 13) (b 14) (b 15)
      let taken := u32 (b 16) (b 17) (b 18) (b 19)
      let rawE := if r.exportBase ≤ exported then exported - r.exportBase else exported
      let rawI := if r.intakeBase ≤ taken then taken - r.intakeBase else taken
      let limitE := min (u16 (b 8) (b 9)) 600 * elapsed / 36 + 10
      let limitI := min (u16 (b 10) (b 11)) 600 * elapsed / 36 + 10
      let deltaE := min rawE limitE
      let deltaI := min rawI limitI
      ∃ t, exec (statusOf d bc b) s = .next t ∧
        (t.dock d).exportBase = exported ∧ (t.dock d).intakeBase = taken ∧
        (t.dock d).dayThroughput = min 4294967295 (r.dayThroughput + deltaE) ∧
        (t.dock d).restartCount = min 65535 (r.restartCount + ((if exported < r.exportBase then 1 else 0) + (if taken < r.intakeBase then 1
          else 0))) ∧
        (t.dock d).jumpCount = min 65535 (r.jumpCount + ((if limitE < rawE then 1 else 0) + (if limitI < rawI then 1 else 0))) ∧
        t.tly.siteExport = s.tly.siteExport ∧ t.tly.siteImport = s.tly.siteImport ∧ t.tly.results = s.tly.results ∧
        (match s.tly.tally, t.tly.tally with
          | none, none => True
          | some y, some z =>
            (y.dockExport + deltaE < 4294967296 → z.dockExport = y.dockExport + deltaE) ∧
            (y.dockIntake + deltaI < 4294967296 → z.dockIntake = y.dockIntake + deltaI) ∧
            (y.interval.dockExport + deltaE < 4294967296 → z.interval.dockExport = y.interval.dockExport + deltaE) ∧
            (y.interval.dockIntake + deltaI < 4294967296 → z.interval.dockIntake = y.interval.dockIntake + deltaI) ∧
            z.participants =
              (match r.vehicle with
                | none => y.participants
                | some v =>
                  if deltaE = 0 then y.participants
                  else if v ∈ y.participants.map Prod.fst then
                    y.participants.map fun e => if e.1 = v then (e.1, min 4294967295 (e.2 + deltaE)) else e
                  else if y.participants.length < 64 then y.participants ++ [(v, deltaE)] else y.participants) ∧
            z.intervalsTotal = y.intervalsTotal ∧ z.meterNet = y.meterNet ∧ z.peakShortfall = y.peakShortfall
          | _, _ => False))

/-- R8, R10, R4: a STATUS without a fault code that reports a vehicle to an ABSENT or VACANT record makes a bind attempt. It succeeds when no
other record holds the vehicle; it takes the vehicle over from a SILENT holder as a move, of which the Route Plan Table hears nothing; and with
any other holder the record enters FAULTED with DUPLICATE-VEHICLE. Told no vehicle, an ABSENT record enters VACANT and a VACANT one stays. -/
def Obligations.StatusMakesABindAttempt : Prop :=
  ∀ (d e : Dock) (bc : Bool) (b : Fin 22 → Byte) (s : State),
    s.dnc.net = .active → s.NetOk → s.DocksOk →
    (s.dock d).state = .absent ∨ (s.dock d).state = .vacant → b 21 = 0 →
    (u16 (b 0) (b 1) ≠ 0 → u16 (b 0) (b 1) ≠ 65535 → (∀ f : Dock, (s.dock f).vehicle ≠ some (u16 (b 0) (b 1))) →
      ∃ t, exec (statusOf d bc b) s = .next t ∧
        (t.dock d).state = .bound ∧ (t.dock d).vehicle = some (u16 (b 0) (b 1)) ∧ (t.dock d).cause = none ∧
        (t.dock d).cleanCount = 0 ∧ (t.dock d).phaseMismatch = 0 ∧ (t.dock d).powerMismatch = 0 ∧
        (∀ f : Dock, f ≠ d → t.dock f = s.dock f) ∧ t.rpt = s.rpt ∧
        t.fleet = s.fleet.raise (.dock d .bound .bound (u16 (b 0) (b 1)) none)) ∧
    (u16 (b 0) (b 1) ≠ 0 → u16 (b 0) (b 1) ≠ 65535 → (s.dock e).vehicle = some (u16 (b 0) (b 1)) → (s.dock e).state = .silent →
      ∃ t, exec (statusOf d bc b) s = .next t ∧
        (t.dock d).state = .bound ∧ (t.dock d).vehicle = some (u16 (b 0) (b 1)) ∧ (t.dock d).cause = none ∧
        t.dock e = { s.dock e with vehicle := none, prior := .vacant, steering := .allocator, manual := none } ∧
        (∀ f : Dock, f ≠ d → f ≠ e → t.dock f = s.dock f) ∧ t.rpt = s.rpt ∧
        t.fleet = (s.fleet.raise (.dock e .released .silent (u16 (b 0) (b 1)) (s.dock e).cause)).raise
          (.dock d .bound .bound (u16 (b 0) (b 1)) none)) ∧
    (u16 (b 0) (b 1) ≠ 0 → u16 (b 0) (b 1) ≠ 65535 → (s.dock e).vehicle = some (u16 (b 0) (b 1)) → (s.dock e).state ≠ .silent →
      ∃ t, exec (statusOf d bc b) s = .next t ∧
        (t.dock d).state = .faulted ∧ (t.dock d).vehicle = none ∧ (t.dock d).cause = some (.duplicateVehicle (u16 (b 0) (b 1))) ∧
        (∀ f : Dock, f ≠ d → t.dock f = s.dock f) ∧ t.rpt = s.rpt ∧
        t.fleet = s.fleet.raise (.dock d .faulted .faulted 0 (some (.duplicateVehicle (u16 (b 0) (b 1)))))) ∧
    (u16 (b 0) (b 1) = 0 ∨ u16 (b 0) (b 1) = 65535 →
      ∃ t, exec (statusOf d bc b) s = .next t ∧
        (t.dock d).state = .vacant ∧ (t.dock d).vehicle = none ∧ (t.dock d).cause = none ∧
        (∀ f : Dock, f ≠ d → t.dock f = s.dock f) ∧ t.rpt = s.rpt ∧
        t.fleet = (if (s.dock d).state = .absent then s.fleet.raise (.dock d .released .vacant 0 none) else s.fleet))

/-- R8, R9, R11, R12, R33: a STATUS that tells a BOUND or FAULTED record another vehicle, or none, releases the vehicle it holds: steering
returns to ALLOCATOR, a DUE plan becomes DEPARTED, and the lowest dock waiting takes it; then a bind attempt is made for the one told. A BOUND
record told none enters VACANT; told another it stays BOUND with it, or enters FAULTED with DUPLICATE-VEHICLE. A FAULTED record keeps a cause
other than DUPLICATE-VEHICLE; that cause goes with a vehicle bound or none told. DEDUCED (log 13): the notice "released" shows the record still
BOUND. -/
def Obligations.StatusReleasesTheVehicle : Prop :=
  ∀ (d : Dock) (bc : Bool) (b : Fin 22 → Byte) (s : State),
    s.dnc.net = .active → s.NetOk → s.DocksOk → b 21 = 0 →
      let r := s.dock d
      let x := if u16 (b 0) (b 1) = 65535 then 0 else u16 (b 0) (b 1)
      let q : State := match r.vehicle with | some u => released d u s | none => s
      let holder := Dock.all.find? fun e => decide (e ≠ d ∧ (s.dock e).vehicle = some x)
      (r.state = .bound → r.vehicle ≠ some x →
        ∃ t, exec (statusOf d bc b) s = .next t ∧
          (t.dock d).steering = .allocator ∧ (t.dock d).manual = none ∧ t.rpt = q.rpt ∧
          (if x = 0 then
            (t.dock d).state = .vacant ∧ (t.dock d).vehicle = none ∧ (t.dock d).cause = none ∧ (t.dock d).cleanCount = 0 ∧
            (t.dock d).phaseMismatch = 0 ∧ (t.dock d).powerMismatch = 0 ∧ (∀ f : Dock, f ≠ d → t.dock f = q.dock f) ∧ t.fleet = q.fleet
          else match holder with
            | none =>
              (t.dock d).state = .bound ∧ (t.dock d).vehicle = some x ∧ (t.dock d).cause = none ∧ (t.dock d).cleanCount = r.cleanCount ∧
              (t.dock d).phaseMismatch = r.phaseMismatch ∧ (t.dock d).powerMismatch = r.powerMismatch ∧
              (∀ f : Dock, f ≠ d → t.dock f = q.dock f) ∧ t.fleet = q.fleet.raise (.dock d .bound .bound x none)
            | some e =>
              if (s.dock e).state = .silent then
                (t.dock d).state = .bound ∧ (t.dock d).vehicle = some x ∧ (t.dock d).cause = none ∧
                t.dock e = { s.dock e with vehicle := none, prior := .vacant, steering := .allocator, manual := none } ∧
                (∀ f : Dock, f ≠ d → f ≠ e → t.dock f = q.dock f) ∧
                t.fleet = (q.fleet.raise (.dock e .released .silent x (s.dock e).cause)).raise (.dock d .bound .bound x none)
              else
                (t.dock d).state = .faulted ∧ (t.dock d).vehicle = none ∧ (t.dock d).cause = some (.duplicateVehicle x) ∧
                (∀ f : Dock, f ≠ d → t.dock f = q.dock f) ∧
                t.fleet = q.fleet.raise (.dock d .faulted .faulted 0 (some (.duplicateVehicle x))))) ∧
      (r.state = .faulted → r.vehicle ≠ some x →
        (match r.cause with | some (.duplicateVehicle _) => false | some (.dock _) => decide (r.cleanCount < 2) | _ => true) = true →
        ∃ t, exec (statusOf d bc b) s = .next t ∧
          (t.dock d).state = .faulted ∧ (t.dock d).cause = r.cause ∧ (t.dock d).steering = .allocator ∧ (t.dock d).manual = none ∧
          t.rpt = q.rpt ∧
          (match (if x = 0 then none else some holder) with
            | none => (t.dock d).vehicle = none ∧ (∀ f : Dock, f ≠ d → t.dock f = q.dock f) ∧ t.fleet = q.fleet
            | some none =>
              (t.dock d).vehicle = some x ∧ (∀ f : Dock, f ≠ d → t.dock f = q.dock f) ∧
              t.fleet = q.fleet.raise (.dock d .bound .faulted x r.cause)
            | some (some e) =>
              if (s.dock e).state = .silent then
                (t.dock d).vehicle = some x ∧
                t.dock e = { s.dock e with vehicle := none, prior := .vacant, steering := .allocator, manual := none } ∧
                (∀ f : Dock, f ≠ d → f ≠ e → t.dock f = q.dock f) ∧
                t.fleet = (q.fleet.raise (.dock e .released .silent x (s.dock e).cause)).raise (.dock d .bound .faulted x r.cause)
              else (t.dock d).vehicle = none ∧ (∀ f : Dock, f ≠ d → t.dock f = q.dock f) ∧ t.fleet = q.fleet)) ∧
      (r.state = .faulted → (match r.cause with | some (.duplicateVehicle _) => true | _ => false) = true →
        ∃ t, exec (statusOf d bc b) s = .next t ∧ t.rpt = s.rpt ∧
          (if x = 0 then
            (t.dock d).state = .vacant ∧ (t.dock d).vehicle = none ∧ (t.dock d).cause = none ∧ (∀ f : Dock, f ≠ d → t.dock f = s.dock f) ∧
            t.fleet = s.fleet.raise (.dock d .released .vacant 0 none)
          else match holder with
            | none =>
              (t.dock d).state = .bound ∧ (t.dock d).vehicle = some x ∧ (t.dock d).cause = none ∧
              (∀ f : Dock, f ≠ d → t.dock f = s.dock f) ∧ t.fleet = s.fleet.raise (.dock d .bound .bound x none)
            | some e =>
              if (s.dock e).state = .silent then
                (t.dock d).state = .bound ∧ (t.dock d).vehicle = some x ∧ (t.dock d).cause = none ∧
                t.dock e = { s.dock e with vehicle := none, prior := .vacant, steering := .allocator, manual := none } ∧
                (∀ f : Dock, f ≠ d → f ≠ e → t.dock f = s.dock f) ∧
                t.fleet = (s.fleet.raise (.dock e .released .silent x (s.dock e).cause)).raise (.dock d .bound .bound x none)
              else
                (t.dock d).state = .faulted ∧ (t.dock d).vehicle = none ∧ (t.dock d).cause = some (.duplicateVehicle x) ∧
                (∀ f : Dock, f ≠ d → t.dock f = s.dock f) ∧ t.fleet = s.fleet))

/-- R7: a STATUS that reports what a SILENT record holds returns the record to FAULTED with its cause when it holds one, and otherwise to its
prior state; the vehicle is kept. (A DUPLICATE-VEHICLE cause is left to step 3 of the same STATUS.) -/
def Obligations.StatusReturnsTheRecordFromSilence : Prop :=
  ∀ (d : Dock) (bc : Bool) (b : Fin 22 → Byte) (s : State),
    s.dnc.net = .active → s.NetOk → s.DocksOk →
    (s.dock d).state = .silent → u16 (b 0) (b 1) = (s.dock d).vehicle.getD 0 → u16 (b 0) (b 1) ≠ 65535 → b 21 = 0 →
    (match (s.dock d).cause with | some (.duplicateVehicle _) => false | _ => true) = true →
      ∃ t, exec (statusOf d bc b) s = .next t ∧
        (t.dock d).silentSince = none ∧ (t.dock d).vehicle = (s.dock d).vehicle ∧ (t.dock d).cause = (s.dock d).cause ∧
        (t.dock d).state =
          (if (s.dock d).cause.isSome then .faulted else if (s.dock d).prior = .bound then .bound else .vacant) ∧
        (t.dock d).steering = (s.dock d).steering ∧
        (∀ f : Dock, f ≠ d → t.dock f = s.dock f) ∧ t.rpt = s.rpt ∧
        t.fleet = s.fleet.raise (.dock d
          (if (s.dock d).cause.isSome then .faulted else if (s.dock d).prior = .bound then .bound else .released)
          (t.dock d).state ((s.dock d).vehicle.getD 0) (s.dock d).cause)

/-- R14: the fault code of a STATUS that reports the record's own vehicle. A code above 15 is taken as 15 (R6). -/
def Obligations.StatusAppliesTheFaultCode : Prop :=
  ∀ (d : Dock) (bc : Bool) (b : Fin 22 → Byte) (s : State),
    s.dnc.net = .active → s.NetOk → s.DocksOk →
    u16 (b 0) (b 1) = (s.dock d).vehicle.getD 0 → u16 (b 0) (b 1) ≠ 65535 →
    ((s.dock d).state = .vacant ∨ (s.dock d).state = .bound → b 21 ≠ 0 →
      ∃ t, exec (statusOf d bc b) s = .next t ∧
        (t.dock d).state = .faulted ∧ (t.dock d).cause = some (.dock (min (b 21).toNat 15)) ∧ (t.dock d).vehicle = (s.dock d).vehicle ∧
        (t.dock d).cleanCount = 0 ∧ (t.dock d).phaseMismatch = 0 ∧ (t.dock d).powerMismatch = 0 ∧
        (∀ f : Dock, f ≠ d → t.dock f = s.dock f) ∧ t.rpt = s.rpt ∧
        t.fleet = s.fleet.raise (.dock d .faulted .faulted ((s.dock d).vehicle.getD 0) (some (.dock (min (b 21).toNat 15))))) ∧
    (∀ k ∈ (match (s.dock d).cause with | some (.dock k) => some k | _ => none), (s.dock d).state = .faulted →
      ∃ t, exec (statusOf d bc b) s = .next t ∧
        (∀ f : Dock, f ≠ d → t.dock f = s.dock f) ∧ t.rpt = s.rpt ∧ (t.dock d).vehicle = (s.dock d).vehicle ∧
        (if b 21 ≠ 0 then
          (t.dock d).state = .faulted ∧ (t.dock d).cause = some (.dock (min (b 21).toNat 15)) ∧ (t.dock d).cleanCount = 0 ∧ t.fleet = s.fleet
        else if (s.dock d).cleanCount + 1 < 3 then
          (t.dock d).state = .faulted ∧ (t.dock d).cause = some (.dock k) ∧ (t.dock d).cleanCount = (s.dock d).cleanCount + 1 ∧
            t.fleet = s.fleet
        else
          (t.dock d).state = (if (s.dock d).vehicle.isSome then .bound else .vacant) ∧ (t.dock d).cause = none ∧
            (t.dock d).cleanCount = 0 ∧
            t.fleet = s.fleet.raise (.dock d (if (s.dock d).vehicle.isSome then .bound else .released) (t.dock d).state
              ((s.dock d).vehicle.getD 0) none))) ∧
    ((s.dock d).state = .faulted → (s.dock d).cause = some .notFollowing ∨ (s.dock d).cause = some .powerMismatch →
      ∃ t, exec (statusOf d bc b) s = .next t ∧
        (t.dock d).state = .faulted ∧ (t.dock d).cause = (s.dock d).cause ∧ (t.dock d).vehicle = (s.dock d).vehicle ∧ t.fleet = s.fleet ∧
        (∀ f : Dock, f ≠ d → t.dock f = s.dock f) ∧ t.rpt = s.rpt)

/-- R16, R17: the two follow-up checks of a STATUS that reports a BOUND record's own vehicle and no fault: four wrong phase echoes in a row fault
the dock NOT-FOLLOWING, five reports of power out of tolerance POWER-MISMATCH, and without an acknowledged phase no check is made. -/
def Obligations.StatusFollowUpChecks : Prop :=
  ∀ (d : Dock) (bc : Bool) (b : Fin 22 → Byte) (s : State),
    s.dnc.net = .active → s.NetOk → s.DocksOk →
    (s.dock d).state = .bound → some (u16 (b 0) (b 1)) = (s.dock d).vehicle → u16 (b 0) (b 1) ≠ 0 → u16 (b 0) (b 1) ≠ 65535 → b 21 = 0 →
      let r := s.dock d
      let applied := decide (b 20 ≠ 0)
      let measured := max (-600) (min 600 (s16 (b 6) (b 7)))
      let away := decide (max 50 (r.setpoint.natAbs / 5) < (measured - r.setpoint).natAbs)
      ∃ t, exec (statusOf d bc b) s = .next t ∧
        (t.dock d).vehicle = r.vehicle ∧ (∀ f : Dock, f ≠ d → t.dock f = s.dock f) ∧ t.rpt = s.rpt ∧
        (if r.phaseAcked = false then
          (t.dock d).state = .bound ∧ (t.dock d).phaseMismatch = r.phaseMismatch ∧ (t.dock d).powerMismatch = r.powerMismatch
        else if applied ≠ s.dnc.phaseOf d then
          (if r.phaseMismatch + 1 < 4 then
            (t.dock d).state = .bound ∧ (t.dock d).phaseMismatch = r.phaseMismatch + 1 ∧ (t.dock d).powerMismatch = r.powerMismatch
          else
            (t.dock d).state = .faulted ∧ (t.dock d).cause = some .notFollowing ∧ (t.dock d).phaseMismatch = 0 ∧
              (t.dock d).powerMismatch = 0)
        else if away = true then
          (if r.powerMismatch + 1 < 5 then
            (t.dock d).state = .bound ∧ (t.dock d).phaseMismatch = 0 ∧ (t.dock d).powerMismatch = r.powerMismatch + 1
          else
            (t.dock d).state = .faulted ∧ (t.dock d).cause = some .powerMismatch ∧ (t.dock d).phaseMismatch = 0 ∧
              (t.dock d).powerMismatch = 0)
        else (t.dock d).state = .bound ∧ (t.dock d).phaseMismatch = 0 ∧ (t.dock d).powerMismatch = 0)

/-! ### Receiving, sending and the net state (R164 to R178) -/

/-- R175: the checks of ECHO TEST in order; a request that passes them starts the test at sequence 1 with its counts at 0 and queues that ECHO.
R176, R167: an accepted ECHO is examined while a wait runs: from the test dock and with the sequence byte awaited it is counted matched or
mismatched and the test goes on; any other is discarded. An echo wait that expires counts the sequence missed; DESIGN CHOICE (log 17): the
command ECHO_WAIT_EXPIRY takes a running wait as expired in every state, and changes nothing when none runs (log 7). DESIGN CHOICE: how a request
row stands in the holding is log 9. -/
def Obligations.EchoTestIsStartedAndJudged : Prop :=
  ∀ (src : Nat) (bc : Bool) (payload : List Byte) (a count : Nat) (s : State),
    let e := s.dnc.echo
    let n := e.sequence
    let sent : List Byte := [BitVec.ofNat 8 n, BitVec.ofNat 8 (n * 37 + 11), BitVec.ofNat 8 (n * 37 + 22), BitVec.ofNat 8 (n * 37 + 33),
      BitVec.ofNat 8 (n * 37 + 44), BitVec.ofNat 8 (n * 37 + 55), BitVec.ofNat 8 (n * 37 + 66), BitVec.ofNat 8 (n * 37 + 77)]
    let goneOn : EchoTest → EchoTest := fun x =>
      if n = e.count then { x with wait := none, state := if x.mismatched = 0 ∧ x.missed = 0 then .donePass else .doneFail }
      else { x with wait := none, sequence := n + 1 }
    let nextQueued : Option EchoFrame := if n = e.count then s.dnc.queuedEcho else some { dock := e.dock, sequence := n + 1 }
    (s.dnc.net = .active → s.NetOk → 1 ≤ src → src ≤ 40 → payload.length = 8 →
      let received : Dnc := { s.dnc with recCount := s.dnc.recCount - 1, ackDriven := !bc }
      exec (.echoReply src bc payload) s = .next { s with dnc :=
        (if e.wait = none ∨ src ≠ e.dock ∨ payload.take 1 ≠ sent.take 1 then received
        else if payload = sent then { received with echo := goneOn { e with matched := e.matched + 1 }, queuedEcho := nextQueued }
        else { received with echo := goneOn { e with mismatched := e.mismatched + 1 }, queuedEcho := nextQueued }) }) ∧
    exec .echoWaitExpiry s = .next { s with dnc :=
      (if e.wait = none then s.dnc
      else { s.dnc with echo := goneOn { e with missed := e.missed + 1 }, queuedEcho := nextQueued }) } ∧
    (let record := if a = 0 ∨ 40 < a then none else Dock.all.find? fun d => decide (d.addr = a)
     let k := s.asked (.echoTest a count)
     (match record with
       | none => exec (.echoTest a count) s = .next (k.answering .fleet 0xBF [2, 13])
       | some d =>
         if count = 0 then exec (.echoTest a count) s = .next (k.answering .fleet 0xBF [2, 3])
         else if (s.evq.any fun r => decide (r.state = .active)) = true then exec (.echoTest a count) s = .next (k.answering .fleet 0xBF [2, 6])
         else if s.dnc.echo.state = .running then exec (.echoTest a count) s = .next (k.answering .fleet 0xBF [2, 15])
         else if (s.dock d).state ≠ .vacant ∧ (s.dock d).state ≠ .bound then exec (.echoTest a count) s = .next (k.answering .fleet 0xBF [2, 14])
         else if s.dnc.net ≠ .active then exec (.echoTest a count) s = .next (k.answering .fleet 0xBF [2, 16])
         else exec (.echoTest a count) s = .next (State.answering
           { k with dnc := { s.dnc with
             echo := { state := .running, dock := a, count := count, sequence := 1, matched := 0, mismatched := 0, missed := 0, wait := none }
             queuedEcho := some { dock := a, sequence := 1 } } } .fleet 0xBF [0, 0])))

/-- R167, R169: a frame received whole but not accepted lowers REC and raises the foreign count and is not acknowledged; a frame in error raises
REC, whether its ack slot had been driven before the error or not. A STATUS or ECHO of a source or a length that R167 does not accept is such a
foreign frame (DEDUCED: log 31). The net state follows the counts: a change raises a NET NOTICE, and entry into NET-PASSIVE ends a running echo
test. DEDUCED (log 22): the notice carries the counts at the moment REC is settled. R167, R170: in NET-OFF frames of other nodes change nothing
(DEDUCED: log 24), and without a frame in transmission no attempt ends (log 7). DESIGN CHOICE (log 39): the test aborted keeps the sequence it
has, also when the ECHO of that sequence was never sent (R177). -/
def Obligations.ReceivedFramesMoveTheCountsAndTheNet : Prop :=
  ∀ (src : Nat) (bc driven : Bool) (payload : List Byte) (how : AttemptEnd) (s : State),
    (s.dnc.net ≠ .off → s.NetOk →
      let settled : Nat → NetState := fun rec' => if 128 ≤ s.dnc.tec ∨ 128 ≤ rec' then .passive else .active
      let rest : State → Prop := fun t =>
        t.docks = s.docks ∧ t.rpt = s.rpt ∧ t.evq = s.evq ∧ t.alc = s.alc ∧ t.rot = s.rot ∧ t.slu = s.slu ∧ t.tly = s.tly ∧ t.dck = s.dck ∧
        t.grid = s.grid ∧ t.dnc.tec = s.dnc.tec ∧ t.dnc.queuedCease = s.dnc.queuedCease ∧
        t.dnc.queuedSetpoints = s.dnc.queuedSetpoints ∧ t.dnc.phase = s.dnc.phase ∧ t.dnc.net = settled t.dnc.recCount ∧
        t.fleet = (if t.dnc.net = s.dnc.net then s.fleet
          else s.fleet.raise (.net s.dnc.net t.dnc.net .recCount s.dnc.tec t.dnc.recCount s.dnc.foreign s.dck.uptime)) ∧
        (if s.dnc.net = .active ∧ t.dnc.net = .passive ∧ s.dnc.echo.state = .running then
          t.dnc.echo = { s.dnc.echo with state := .aborted, wait := none } ∧ t.dnc.queuedEcho = none
        else t.dnc.echo = s.dnc.echo ∧ t.dnc.queuedEcho = s.dnc.queuedEcho ∧ t.dnc.sending = s.dnc.sending)
      (∃ t, exec .foreignFrame s = .next t ∧ rest t ∧ t.dnc.recCount = s.dnc.recCount - 1 ∧
        t.dnc.foreign = min 255 (s.dnc.foreign + 1) ∧ t.dnc.ackDriven = false ∧ t.draws = s.draws) ∧
      (∃ t, exec (.frameInError driven) s = .next t ∧ rest t ∧ t.dnc.recCount = min 255 (s.dnc.recCount + 1) ∧
        t.dnc.foreign = s.dnc.foreign ∧ t.dnc.ackDriven = driven ∧ t.draws = s.draws)) ∧
    (src = 0 ∨ 40 < src ∨ payload.length ≠ 22 → exec (.status src bc payload) s = exec .foreignFrame s) ∧
    (src = 0 ∨ 40 < src ∨ payload.length ≠ 8 → exec (.echoReply src bc payload) s = exec .foreignFrame s) ∧
    (s.dnc.net = .off →
      exec (.status src bc payload) s = .next s ∧ exec (.echoReply src bc payload) s = .next s ∧ exec .foreignFrame s = .next s ∧
      exec (.frameInError driven) s = .next s) ∧
    (s.dnc.sending = none → exec .arbitrationLost s = .next s ∧ exec (.transmitAttemptEnd how) s = .next s)

/-- R164, R172, R169: with the line idle, no frame in transmission and the net not OFF, the head frame leaves the queue: a CEASE, else the first
SETPOINT, else an ECHO, which is not sent in NET-PASSIVE. R166: an attempt lost in arbitration returns its frame to its place, or drops it when
it is withdrawn or a newer SETPOINT for its dock, or a newer CEASE, has been queued since the attempt began, still queued or not (the mark for it
is the model's own field: log 14). With a frame in transmission (log 7) or in NET-OFF (DEDUCED: log 24) TRANSMIT_START changes nothing. -/
def Obligations.AttemptsTakeAndReturnTheHeadFrame : Prop :=
  ∀ (s : State),
    (s.dnc.sending = none → s.dnc.net ≠ .off →
      exec .transmitStart s = .next { s with dnc :=
        (if s.dnc.queuedCease then { s.dnc with queuedCease := false, sending := some { frame := .cease, withdrawn := false, superseded := false } }
        else match s.dnc.queuedSetpoints with
          | f :: rest => { s.dnc with queuedSetpoints := rest, sending := some { frame := .setpoint f, withdrawn := false, superseded := false } }
          | [] => match s.dnc.queuedEcho with
            | some e =>
              if s.dnc.net = .active then
                { s.dnc with queuedEcho := none, sending := some { frame := .echo e, withdrawn := false, superseded := false } }
              else s.dnc
            | none => s.dnc) }) ∧
    (s.dnc.sending.isSome = true ∨ s.dnc.net = .off → exec .transmitStart s = .next s) ∧
    (s.dnc.net ≠ .off → ∀ x ∈ s.dnc.sending,
      exec .arbitrationLost s = .next { s with dnc :=
        (if x.withdrawn = true ∨ x.superseded = true then { s.dnc with sending := none }
        else match x.frame with
          | .cease => { s.dnc with sending := none, queuedCease := true }
          | .setpoint f =>
            if f.dock ∈ s.dnc.queuedSetpoints.map Setpoint.dock then { s.dnc with sending := none }
            else { s.dnc with sending := none, queuedSetpoints := f :: s.dnc.queuedSetpoints }
          | .echo e => { s.dnc with sending := none, queuedEcho := some e }) })

/-- R165, R166, R169, R170: a transmit error raises TEC by 8. While TEC stays at or below 255 the frame goes back to its place; above 255 the net
goes OFF: the queue and the frame are dropped, a running echo test ends ABORTED, and the recovery timer is started for 2 s. A frame with a newer
one queued since the attempt began is dropped (the mark is the model's own field: log 14). DEDUCED (log 22): the NET NOTICE carries the cause TEC
and the counts as TEC is settled. DESIGN CHOICE (log 39): the test aborted keeps the sequence it has, also when the ECHO of that sequence was
never sent (R177). -/
def Obligations.TransmitErrorRaisesTecAndCanTurnTheNetOff : Prop :=
  ∀ (s : State),
    s.NetOk → ∀ x ∈ s.dnc.sending,
      ∃ t, exec (.transmitAttemptEnd .transmitError) s = .next t ∧
        t.dnc.tec = s.dnc.tec + 8 ∧ t.dnc.recCount = s.dnc.recCount ∧ t.dnc.sending = none ∧ t.dnc.phase = s.dnc.phase ∧
        t.dnc.net = (if 255 < s.dnc.tec + 8 then .off else if 128 ≤ s.dnc.tec + 8 ∨ 128 ≤ s.dnc.recCount then .passive else .active) ∧
        (if 255 < s.dnc.tec + 8 then
          t.dnc.queuedCease = false ∧ t.dnc.queuedSetpoints = [] ∧ t.dnc.queuedEcho = none ∧
            t.dnc.recoveryTimer = some ((s.dck.uptime + 2) % 4294967296)
        else
          t.dnc.recoveryTimer = s.dnc.recoveryTimer ∧
          (match x.frame with
            | .cease => t.dnc.queuedCease = (s.dnc.queuedCease || !(x.withdrawn || x.superseded)) ∧ t.dnc.queuedSetpoints = s.dnc.queuedSetpoints
            | .setpoint f =>
              t.dnc.queuedCease = s.dnc.queuedCease ∧
              t.dnc.queuedSetpoints =
                (if x.withdrawn = true ∨ x.superseded = true ∨ f.dock ∈ s.dnc.queuedSetpoints.map Setpoint.dock then s.dnc.queuedSetpoints
                else f :: s.dnc.queuedSetpoints)
            | .echo e =>
              t.dnc.queuedCease = s.dnc.queuedCease ∧ t.dnc.queuedSetpoints = s.dnc.queuedSetpoints ∧
              (t.dnc.net = .active → x.withdrawn = false → x.superseded = false → t.dnc.queuedEcho = some e) ∧
              (t.dnc.net = .passive → t.dnc.queuedEcho = none))) ∧
        (s.dnc.echo.state = .running → t.dnc.net ≠ .active →
          t.dnc.echo = { s.dnc.echo with state := .aborted, wait := none }) ∧
        (t.dnc.net = .active ∨ s.dnc.echo.state ≠ .running → t.dnc.echo = s.dnc.echo) ∧
        t.fleet = (if t.dnc.net = s.dnc.net then s.fleet
          else s.fleet.raise (.net s.dnc.net t.dnc.net .tecCount (s.dnc.tec + 8) s.dnc.recCount s.dnc.foreign s.dck.uptime)) ∧
        t.docks = s.docks ∧ t.rpt = s.rpt ∧ t.evq = s.evq ∧ t.alc = s.alc ∧ t.slu = s.slu ∧ t.tly = s.tly ∧ t.dck = s.dck ∧ t.grid = s.grid

/-- R165, R15, R20, R21, R169, R173, R176, R177: a whole attempt, in NET-ACTIVE or NET-PASSIVE, lowers TEC and removes the frame; when both
counts are below 128 then, the net returns to NET-ACTIVE with a NET NOTICE, ahead of any notice of the frame's end. The end of a SETPOINT,
withdrawn or not, is told to its dock's record: acknowledged, it sets phase acknowledged when it carried the current phase and clears the
missed-ack count of a BOUND or FAULTED record; missed, it raises that count, and the third miss makes the record SILENT. An ECHO starts the echo
wait, or is missed. DEDUCED (log 22): the NET NOTICE carries the cause TEC and the counts as TEC is settled. DESIGN CHOICE (log 39): the test
aborted keeps the sequence it has, also when the ECHO of that sequence was never sent (R177). -/
def Obligations.WholeAttemptsAreReported : Prop :=
  ∀ (acked : Bool) (s : State),
    s.NetOk → ∀ x ∈ s.dnc.sending,
      let net : NetState := if 128 ≤ s.dnc.tec - 1 ∨ 128 ≤ s.dnc.recCount then .passive else .active
      let told := if net = s.dnc.net then s.fleet
        else s.fleet.raise (.net s.dnc.net net .tecCount (s.dnc.tec - 1) s.dnc.recCount s.dnc.foreign s.dck.uptime)
      ∃ t, exec (.transmitAttemptEnd (.wholeFrame acked)) s = .next t ∧
        t.dnc.tec = s.dnc.tec - 1 ∧ t.dnc.sending = none ∧ t.dnc.net = net ∧ t.dnc.phase = s.dnc.phase ∧
        t.dnc.recCount = s.dnc.recCount ∧ t.dnc.foreign = s.dnc.foreign ∧ t.dnc.recoveryTimer = s.dnc.recoveryTimer ∧
        t.dnc.queuedCease = s.dnc.queuedCease ∧ t.dnc.queuedSetpoints = s.dnc.queuedSetpoints ∧
        t.rpt = s.rpt ∧ t.evq = s.evq ∧ t.alc = s.alc ∧ t.slu = s.slu ∧ t.tly = s.tly ∧ t.dck = s.dck ∧ t.grid = s.grid ∧
        (match x.frame with
          | .cease => t.docks = s.docks ∧ t.dnc.echo = s.dnc.echo ∧ t.fleet = told
          | .echo _ =>
            t.docks = s.docks ∧ t.fleet = told ∧
            (if x.withdrawn then t.dnc.echo = s.dnc.echo
            else if acked then t.dnc.echo = { s.dnc.echo with wait := some 3277 }
            else if s.dnc.echo.sequence = s.dnc.echo.count then
              t.dnc.echo = { s.dnc.echo with missed := s.dnc.echo.missed + 1, wait := none, state := .doneFail } ∧ t.dnc.queuedEcho = none
            else
              t.dnc.echo = { s.dnc.echo with missed := s.dnc.echo.missed + 1, wait := none, sequence := s.dnc.echo.sequence + 1 } ∧
                t.dnc.queuedEcho = some { dock := s.dnc.echo.dock, sequence := s.dnc.echo.sequence + 1 })
          | .setpoint f =>
            (∀ e : Dock, e ≠ f.dock → t.dock e = s.dock e) ∧
            (let r := s.dock f.dock
             let counted := r.state = .bound ∨ r.state = .faulted
             if acked then
              t.fleet = told ∧ t.dnc.echo = s.dnc.echo ∧
              t.dock f.dock = { r with
                phaseAcked := r.phaseAcked || decide (f.phase = s.dnc.phaseOf f.dock)
                missedAck := if counted then 0 else r.missedAck }
             else if ¬counted then t.docks = s.docks ∧ t.fleet = told ∧ t.dnc.echo = s.dnc.echo
             else if r.missedAck + 1 < 3 then
              t.dock f.dock = { r with missedAck := r.missedAck + 1 } ∧ t.fleet = told ∧ t.dnc.echo = s.dnc.echo
             else
              t.dock f.dock = { r with
                state := .silent, prior := if r.vehicle.isSome then .bound else .vacant, silentSince := some s.dck.uptime, missedAck := 0
                cleanCount := 0, phaseMismatch := 0, powerMismatch := 0 } ∧
              t.fleet = told.raise (.dock f.dock .silent .silent (r.vehicle.getD 0) r.cause) ∧
              t.dnc.echo = (if s.dnc.echo.state = .running ∧ s.dnc.echo.dock = f.dock.addr then
                { s.dnc.echo with state := .aborted, wait := none } else s.dnc.echo)))

/-- R170, R171: the recovery timer, when it is due in NET-OFF, and NET RESTART in any net state set TEC and REC to 0, return the net to ACTIVE
and stop the timer; a NET NOTICE is raised when the state changed. Foreign count, queue, phase bits and echo test stay. DESIGN CHOICE (log 7):
RECOVERY_TIMER_EXPIRY outside NET-OFF changes nothing. DESIGN CHOICE: how a request row stands in the holding is log 9. -/
def Obligations.NetRecoversAndRestarts : Prop :=
  ∀ (s : State),
    (s.dnc.net = .off →
      ∀ e ∈ s.dnc.recoveryTimer, (s.dck.uptime + 4294967296 - e) % 4294967296 < 2147483648 →
        exec .recoveryTimerExpiry s = .next { s with
          dnc := { s.dnc with tec := 0, recCount := 0, net := .active, recoveryTimer := none }
          fleet := s.fleet.raise (.net .off .active .recovery 0 0 s.dnc.foreign s.dck.uptime) }) ∧
    (s.dnc.net ≠ .off → exec .recoveryTimerExpiry s = .next s) ∧
    exec .netRestart s = .next (State.answering { s.asked .netRestart with
      dnc := { s.dnc with tec := 0, recCount := 0, net := .active, recoveryTimer := none }
      fleet := if s.dnc.net = .active then (s.asked .netRestart).fleet
        else (s.asked .netRestart).fleet.raise (.net s.dnc.net .active .restart 0 0 s.dnc.foreign s.dck.uptime) } .fleet 0xBE [0, 0])

/-! ### The Dock Table's timers (R19, R21, R22) -/

/-- R19, R21, R22: a due report timeout makes a VACANT, BOUND or FAULTED record SILENT; a due silent grace makes a SILENT record ABSENT, releases
its vehicle as "absent" and clears the reported values. A timer that is not due changes nothing (log 7). DEDUCED (log 13): the notice "absent"
shows the state ABSENT and the cause the record still holds. A running echo test on a dock that enters SILENT ends ABORTED (R177). DESIGN CHOICE
(log 39): the test aborted keeps the sequence it has, also when the ECHO of that sequence was never sent (R177). -/
def Obligations.DockTimersEnterSilentAndAbsent : Prop :=
  ∀ (d : Dock) (s : State),
    (let r := s.dock d
     let due := (r.state = .vacant ∨ r.state = .bound ∨ r.state = .faulted) ∧ 3 ≤ (s.dck.uptime + 4294967296 - r.lastReport) % 4294967296
     (due →
      ∃ t, exec (.reportTimeout d.addr) s = .next t ∧
        t.dock d = { r with
          state := .silent, prior := if r.vehicle.isSome then .bound else .vacant, silentSince := some s.dck.uptime, missedAck := 0
          cleanCount := 0, phaseMismatch := 0, powerMismatch := 0 } ∧
        (∀ e : Dock, e ≠ d → t.dock e = s.dock e) ∧
        t.fleet = s.fleet.raise (.dock d .silent .silent (r.vehicle.getD 0) r.cause) ∧
        t.dnc.echo = (if s.dnc.echo.state = .running ∧ s.dnc.echo.dock = d.addr then
          { s.dnc.echo with state := .aborted, wait := none } else s.dnc.echo) ∧
        t.dnc.queuedSetpoints = s.dnc.queuedSetpoints ∧ t.dnc.net = s.dnc.net ∧ t.dnc.phase = s.dnc.phase ∧
        t.rpt = s.rpt ∧ t.evq = s.evq ∧ t.alc = s.alc ∧ t.rot = s.rot ∧ t.slu = s.slu ∧ t.tly = s.tly ∧ t.dck = s.dck ∧ t.grid = s.grid) ∧
     (¬due → exec (.reportTimeout d.addr) s = .next s)) ∧
    (s.DocksOk →
     let r := s.dock d
     (∀ since ∈ r.silentSince, 60 ≤ (s.dck.uptime + 4294967296 - since) % 4294967296 →
      ∃ t, exec (.silentGraceExpiry d.addr) s = .next t ∧
        t.dock d = { r with
          state := .absent, vehicle := none, prior := .vacant, silentSince := none, stored := 0, capacity := 0, ratedExport := 0
          ratedIntake := 0, measured := 0, steering := .allocator, manual := none, cause := none, cleanCount := 0
          phaseMismatch := 0, powerMismatch := 0 } ∧
        t.evq = s.evq ∧ t.alc = s.alc ∧ t.rot = s.rot ∧ t.slu = s.slu ∧ t.tly = s.tly ∧ t.dck = s.dck ∧ t.grid = s.grid ∧ t.dnc = s.dnc ∧
        (match r.vehicle with
          | none =>
            t.rpt = s.rpt ∧ (∀ e : Dock, e ≠ d → t.dock e = s.dock e) ∧ t.fleet = s.fleet.raise (.dock d .absent .absent 0 r.cause)
          | some u =>
            t.rpt = { s.rpt with plans := departed u s.rpt.plans } ∧
            (match firstWaiting u s with
              | none =>
                (∀ e : Dock, e ≠ d → t.dock e = s.dock e) ∧ t.fleet = s.fleet.raise (.dock d .absent .absent u r.cause)
              | some w =>
                t.dock w = { s.dock w with
                  state := .bound, vehicle := some u, cause := none, cleanCount := 0, phaseMismatch := 0, powerMismatch := 0 } ∧
                (∀ e : Dock, e ≠ d → e ≠ w → t.dock e = s.dock e) ∧
                t.fleet = (s.fleet.raise (.dock d .absent .absent u r.cause)).raise (.dock w .bound .bound u none)))) ∧
     ((∀ since ∈ r.silentSince, (s.dck.uptime + 4294967296 - since) % 4294967296 < 60) →
      exec (.silentGraceExpiry d.addr) s = .next s))

/-! ### The allocation pass (R77 to R103) -/

/-- R93, R98, R101: of every allocation pass, the total intake commanded does not exceed the site intake ceiling, the net export commanded does
not exceed H_now, each setpoint lies within the record's ratings, and a share above 0 goes only to a dock whose vehicle holds more than its
floor. What the Allocator holds afterwards are these totals. -/
def Obligations.PassKeepsCeilingHeadroomRatingsAndFloors : Prop :=
  ∀ (s : State),
    s.DocksOk →
      let t := runPass s
      sumDocks (fun d => max 0 (-(t.dock d).setpoint)) ≤ s.slu.intakeCeiling ∧
      (0 ≤ sumDocks (fun d => (t.dock d).setpoint) → sumDocks (fun d => (t.dock d).setpoint) ≤ hNow s) ∧
      t.alc.previousIntake = sumDocks (fun d => max 0 (-(t.dock d).setpoint)) ∧
      t.alc.previousNet = sumDocks (fun d => (t.dock d).setpoint) ∧
      t.alc.previousPass = s.dck.uptime ∧
      (∀ d : Dock,
        -((s.dock d).ratedIntake : Int) ≤ (t.dock d).setpoint ∧ (t.dock d).setpoint ≤ (s.dock d).ratedExport ∧
        (0 < (t.dock d).share → (t.dock d).setpoint = (t.dock d).share ∧ (t.dock d).floor < (s.dock d).stored ∧ (s.dock d).state = .bound))

/-- R101, R102, R174, R15: a pass writes setpoint, share and floor of every record; a changed setpoint flips the dock's phase bit and clears
phase acknowledged and the mismatch counts; and, outside NET-OFF, one SETPOINT stands queued for every BOUND record and every FAULTED one with a
vehicle, carrying the setpoint and phase as written; of a frame in transmission it changes only the mark that a newer one is queued (R166, log
14). Nothing else of these blocks changes. R83: outside NORMAL a pass commands nothing in either direction, whatever the manual values, the plans
and the event. In NORMAL it writes the floors (R46 to R49, R82), and each dock gets what its place gives (R85 to R89): 0; its manual value within
headroom and ceiling (R91); its intake in the order of R92 within the ceiling (R90); or its share of the water-fill (R96) of the amount of R94
over the docks with a cap (R88), a resting group's only on a yield (R95). Shortfall (R99, R144), yield (R95, R115) and the holds on the short
band (R42, R44, R100) follow. DEDUCED (log 12): the shortfall is the formula of R99 also above 24000. -/
def Obligations.PassWritesRecordsAndQueuesSetpoints : Prop :=
  ∀ (s : State),
    (s.slu.trip ≠ .normal →
      let t := runPass s
      (∀ d : Dock, (t.dock d).setpoint = 0 ∧ (t.dock d).share = 0) ∧
      t.alc = { previousNet := 0, previousIntake := 0, previousPass := s.dck.uptime, lastYield := false
                lastShortfall := match s.evq with | r :: _ => if r.state = .active then r.committed else 0 | [] => 0 } ∧
      t.rot = s.rot ∧ t.rpt = s.rpt ∧
      (s.evq = [] → t.tly = s.tly)) ∧
    (s.NetOk →
      let t := runPass s
      (∀ d : Dock,
        let changed := decide ((t.dock d).setpoint ≠ (s.dock d).setpoint)
        t.dock d = { s.dock d with
          setpoint := (t.dock d).setpoint, share := (t.dock d).share, floor := (t.dock d).floor
          phaseAcked := (s.dock d).phaseAcked && !changed
          phaseMismatch := if changed then 0 else (s.dock d).phaseMismatch
          powerMismatch := if changed then 0 else (s.dock d).powerMismatch } ∧
        t.dnc.phaseOf d = (s.dnc.phaseOf d ^^ changed) ∧
        ((s.dock d).vehicle = none → (t.dock d).floor = 0) ∧
        ((s.dock d).state ≠ .bound → (t.dock d).setpoint = 0 ∧ (t.dock d).share = 0) ∧
        (t.dnc.queuedSetpoints.filter fun f => decide (f.dock = d)) =
          (if s.dnc.net ≠ .off ∧ ((s.dock d).state = .bound ∨ ((s.dock d).state = .faulted ∧ (s.dock d).vehicle.isSome = true)) then
            [{ dock := d, value := (t.dock d).setpoint, phase := t.dnc.phaseOf d }]
          else s.dnc.queuedSetpoints.filter fun f => decide (f.dock = d))) ∧
      t.dnc = { s.dnc with
        phase := t.dnc.phase, queuedSetpoints := t.dnc.queuedSetpoints
        sending := s.dnc.sending.map fun x => match x.frame with
          | .setpoint f =>
            { x with superseded := x.superseded || (decide (s.dnc.net ≠ .off) && (decide ((s.dock f.dock).state = .bound) ||
              (decide ((s.dock f.dock).state = .faulted) && (s.dock f.dock).vehicle.isSome))) }
          | .cease => x
          | .echo _ => x } ∧
      t.evq = s.evq ∧ t.slu = s.slu ∧ t.dck = s.dck ∧ t.grid = s.grid ∧ t.pending = s.pending ∧ t.draws = s.draws ∧
      t.rpt = { s.rpt with plans := t.rpt.plans } ∧ t.rot = { s.rot with yieldCount := t.rot.yieldCount } ∧
      t.tly = { s.tly with tally := t.tly.tally }) ∧
    (s.slu.trip = .normal → s.DocksOk → s.PlansOk →
      let t := runPass s
      let event := s.evq.head?.filter fun r => decide (r.state = .active)
      let ramp := s.slu.rampRate * ((s.dck.uptime + 4294967296 - s.alc.previousPass) % 4294967296)
      let ceiling := min s.slu.intakeCeiling (s.alc.previousIntake + ramp)
      let floor : Dock → Nat → Nat := fun d v => floorOf s d v (match event with | some r => r.stop | none => s.dck.depotTime)
      let entry : Nat → Option Plan := fun v => s.rpt.plans.find? fun p => decide (p.vehicle = v)
      let level : Nat → HoldLevel := fun v => match entry v with | some p => p.hold | none => .none
      let served : Dock → Option Nat := fun d =>
        if (s.dock d).state = .bound then (s.dock d).vehicle.filter fun v => decide (level v ≠ .lockout) else none
      let manual : Dock → Option Int := fun d =>
        if (s.dock d).steering = .manual then (served d).bind fun v =>
          (if level v = .hold ∧ 0 < (s.dock d).manual.getD 0 then none else some ((s.dock d).manual.getD 0))
        else none
      let free : Dock → Option Nat := fun d => if (s.dock d).steering = .allocator then served d else none
      let candidate : Dock → Bool := fun d =>
        (free d).any fun v => decide ((s.dock d).stored < (if event.isSome then floor d v else goalOf s d v))
      let leaves : Dock → Nat := fun d =>
        match (s.dock d).vehicle.bind (plannedEntry s) with | some p => p.departure | none => 4294967296
      let before : Dock → Dock → Bool := fun e d => decide (leaves e < leaves d ∨ (leaves e = leaves d ∧
        ((s.dock e).stored < (s.dock d).stored ∨ ((s.dock e).stored = (s.dock d).stored ∧ e.val < d.val))))
      let taken : Dock → Nat := fun d => (-(t.dock d).setpoint).toNat
      let sent : Dock → Nat := fun d => (t.dock d).setpoint.toNat
      let sumOver : (Dock → Bool) → (Dock → Nat) → Nat := fun p f => ((Dock.all.filter p).map f).sum
      let cap : Dock → Nat := fun d =>
        match event, (free d).bind entry with
        | some r, some p =>
          if candidate d = true ∨ p.state = .departed ∨ p.hold = .hold then 0
          else min (s.dock d).ratedExport (((s.dock d).stored - floor d p.vehicle) * 3600 / max 60 (r.stop - s.dck.depotTime))
        | _, _ => 0
      let rest : Option (Fin 4) := match s.rot.state with | .rest g => g | _ => none
      let resting : Dock → Bool := fun d => decide (rest = some (s.dock d).group)
      let amount := match event with
        | some r => (((min r.committed (min (headroomNow s) (s.alc.previousNet.toNat + ramp)) : Nat) : Int) -
            sumOver (fun d => (manual d).isSome) sent + sumOver (fun _ => true) taken).toNat
        | none => 0
      let yields := event.isSome && rest.isSome && s.rot.yieldOn && decide (sumOver (fun d => !resting d) cap < amount)
      let filling : List FillDock := (Dock.all.filter fun d => decide (0 < cap d) && (yields || !resting d)).map fun d =>
        { dock := d, cap := cap d, throughput := (s.dock d).dayThroughput / 100 }
      let banded : Plan → Bool := fun p => decide (p.hold = .none) && !p.shortHoldOff && Dock.all.any fun d =>
        decide ((s.dock d).vehicle = some p.vehicle ∧ 0 < (t.dock d).share ∧ (s.dock d).stored ≤ floor d p.vehicle + s.rpt.shortBand)
      (∀ d : Dock,
        (t.dock d).floor = (match (s.dock d).vehicle with | some v => floor d v | none => 0) ∧
        (served d = none → (t.dock d).setpoint = 0 ∧ (t.dock d).share = 0) ∧
        ((s.dock d).steering = .manual → (t.dock d).share = 0 ∧
          (match manual d with
            | none => (t.dock d).setpoint = 0
            | some x =>
              if x < 0
              then (t.dock d).setpoint = -((min x.natAbs (ceiling - sumOver (fun e => (manual e).isSome && decide (e < d)) taken) : Nat) : Int)
              else (t.dock d).setpoint = ((min x.toNat (headroomNow s - sumOver (fun e => (manual e).isSome && decide (e < d)) sent) : Nat) : Int))) ∧
        (candidate d = true → (t.dock d).share = 0 ∧
          (t.dock d).setpoint = -((min (s.dock d).ratedIntake
            (ceiling - sumOver (fun e => (manual e).isSome) taken - sumOver (fun e => candidate e && before e d) taken) : Nat) : Int)) ∧
        ((s.dock d).steering = .allocator → candidate d = false →
          (t.dock d).share = (match (waterFill filling amount).find? fun e => decide (e.1 = d) with | some e => e.2 | none => 0) ∧
          (t.dock d).setpoint = (t.dock d).share)) ∧
      t.alc.lastShortfall = (match event with | some r => ((r.committed : Int) - t.alc.previousNet).toNat | none => 0) ∧
      t.alc.lastYield = yields ∧ t.rot.yieldCount = (if yields then min 65535 (s.rot.yieldCount + 1) else s.rot.yieldCount) ∧
      t.tly.tally = (if event.isSome then s.tly.tally.map fun y => { y with peakShortfall := max y.peakShortfall t.alc.lastShortfall }
        else s.tly.tally) ∧
      t.rpt.plans = s.rpt.plans.map (fun p => if banded p then { p with hold := .hold, source := some .auto } else p) ∧
      t.fleet = (s.rpt.plans.filter banded).foldl (fun q p => q.raise (.hold p.vehicle .shortBand .hold (some .auto) p.pendingHold)) s.fleet)

/-- R96, R97: the water-fill gives every dock its cap when the amount reaches the sum of the caps; otherwise the fill total is exactly the amount
and no share is above its dock's cap, the shares below their caps differ by one tenth at most, and the docks with the odd tenth are those first
by day throughput, equal ones by address (R97). -/
def Obligations.WaterFillSpreadsTheAmountUnderTheCaps : Prop :=
  ∀ (l : List FillDock) (amount : Nat),
    (l.map FillDock.dock).Nodup →
    ((l.map FillDock.cap).sum ≤ amount → waterFill l amount = l.map fun e => (e.dock, e.cap)) ∧
    (amount < (l.map FillDock.cap).sum → ((waterFill l amount).map Prod.snd).sum = amount) ∧
    (((waterFill l amount).map Prod.fst).Perm (l.map FillDock.dock)) ∧
    (∀ x ∈ waterFill l amount, ∀ e ∈ l, e.dock = x.1 → x.2 ≤ e.cap) ∧
    (∀ x ∈ waterFill l amount, ∀ y ∈ waterFill l amount, ∀ e ∈ l, e.dock = x.1 → x.2 < e.cap → y.2 ≤ x.2 + 1) ∧
    (∀ x ∈ waterFill l amount, ∀ y ∈ waterFill l amount, ∀ e ∈ l, ∀ f ∈ l, e.dock = x.1 → f.dock = y.1 → y.2 < f.cap → x.2 = y.2 + 1 →
      e.throughput < f.throughput ∨ (e.throughput = f.throughput ∧ e.dock < f.dock))

/-! ### The trip line (R127 to R133) -/

/-- R127, R173, R83, R131: an assertion in NORMAL or HOLDOFF enters TRIPPED, deasserts EXPERM and stops the hold-off; outside NET-OFF a CEASE is
queued and every queued SETPOINT carries 0, and one in transmission that carries more is withdrawn; the trip pass writes 0 into every record; the
trip count rises and both links get the notice. -/
def Obligations.TripAssertionStopsEveryFlow : Prop :=
  ∀ (s : State),
    s.slu.trip ≠ .tripped → s.NetOk →
      ∃ t, exec .tripAssertion s = .next t ∧
        t.slu = { s.slu with
          trip := .tripped, lineAsserted := true, holdoffTimer := none, experm := false, tripCount := min 65535 (s.slu.tripCount + 1) } ∧
        (∀ d : Dock, (t.dock d).setpoint = 0 ∧ (t.dock d).share = 0 ∧ (t.dock d).state = (s.dock d).state ∧
          (t.dock d).vehicle = (s.dock d).vehicle ∧ (t.dock d).manual = (s.dock d).manual) ∧
        t.alc.previousNet = 0 ∧ t.alc.previousIntake = 0 ∧ t.alc.previousPass = s.dck.uptime ∧ t.alc.lastYield = false ∧
        (s.dnc.net ≠ .off → t.dnc.queuedCease = true) ∧
        (∀ f ∈ t.dnc.queuedSetpoints, f.value = 0) ∧
        (∀ x ∈ t.dnc.sending, (match x.frame with | .setpoint f => f.value | _ => 0) ≠ 0 → x.withdrawn = true) ∧
        (s.dnc.net = .off → t.dnc = { s.dnc with phase := t.dnc.phase }) ∧
        t.dnc.tec = s.dnc.tec ∧ t.dnc.recCount = s.dnc.recCount ∧ t.dnc.queuedEcho = s.dnc.queuedEcho ∧ t.dnc.echo = s.dnc.echo ∧
        t.grid = s.grid.raise (.trip .asserted .tripped (min 65535 (s.slu.tripCount + 1)) s.slu.tripSeconds none s.dck.uptime
          (if s.dck.running then s.dck.depotTime else 0)) ∧
        t.fleet = s.fleet.raise (.trip .asserted .tripped (min 65535 (s.slu.tripCount + 1)) s.slu.tripSeconds none s.dck.uptime
          (if s.dck.running then s.dck.depotTime else 0)) ∧
        t.evq = s.evq ∧ t.rpt = s.rpt ∧ t.rot = s.rot ∧ t.dck = s.dck

/-- R129, R130, R131, R132: a release in TRIPPED starts the hold-off and a notice tells it; the hold-off, when it is due, returns the trip state
to NORMAL, EXPERM follows clock and table, a pass runs, and both links get the notice. -/
def Obligations.TripReleaseAndHoldoffResume : Prop :=
  ∀ (s : State),
    (s.slu.trip = .tripped →
      let e := (s.dck.uptime + s.slu.holdoff) % 4294967296
      let n : Notice := .trip .released .holdoff s.slu.tripCount s.slu.tripSeconds (some e) s.dck.uptime
        (if s.dck.running then s.dck.depotTime else 0)
      exec .tripRelease s = .next { s with
        slu := { s.slu with trip := .holdoff, lineAsserted := false, holdoffTimer := some e }
        grid := s.grid.raise n
        fleet := s.fleet.raise n }) ∧
    (s.slu.trip = .holdoff → ∀ e ∈ s.slu.holdoffTimer, (s.dck.uptime + 4294967296 - e) % 4294967296 < 2147483648 →
      ∃ t, exec .holdoffExpiry s = .next t ∧
        t.slu = { s.slu with trip := .normal, holdoffTimer := none, experm := s.dck.running && s.slu.tableValid } ∧
        t.alc.previousPass = s.dck.uptime ∧ t.evq = s.evq ∧ t.dck = s.dck ∧
        t.docks = (runPass { s with slu := t.slu }).docks ∧ t.rpt = (runPass { s with slu := t.slu }).rpt ∧
        t.dnc = (runPass { s with slu := t.slu }).dnc ∧ t.tly = (runPass { s with slu := t.slu }).tly ∧
        t.alc = (runPass { s with slu := t.slu }).alc ∧ t.rot = (runPass { s with slu := t.slu }).rot ∧
        (let n : Notice := .trip .resumed .normal s.slu.tripCount s.slu.tripSeconds none s.dck.uptime (if s.dck.running then s.dck.depotTime else 0)
         t.grid = s.grid.raise n ∧ t.fleet = (runPass { s with slu := t.slu }).fleet.raise n))

/-! ### The clock (R154 to R161) -/

/-- R155, R133, R19, R22, R78, R109 to R111, R170, R181: an uptime second counts, and what comes due at the new uptime has been taken when it is
done, in every order the owners may be taken in: trip seconds, reports and graces, the allocation timer, the hold-off, the A and B timers, the
recovery timer and the quiet timers. Queue, clock time, results and parameters stay. Of this the model chooses: every expiry is taken within the
second (DEDUCED, log 4), the allocation timer's also after another pass of it (log 36), due means less than 2^31 past (DEDUCED, log 15), the
divider is at 0 (DEDUCED, log 16), and one free order is drawn (log 6). -/
def Obligations.UptimeSecondTakesWhatIsDue : Prop :=
  ∀ (s : State),
    s.DocksOk →
      let now := (s.dck.uptime + 1) % 4294967296
      let since : Nat → Nat := fun x => (now + 4294967296 - x) % 4294967296
      ∃ t, exec .uptimeSecond s = .next t ∧
        t.dck = { s.dck with uptime := now, uptimeDivider := 0 } ∧ t.draws = s.draws + 1 ∧ t.evq = s.evq ∧
        t.tly.results = s.tly.results ∧ t.tly.siteExport = s.tly.siteExport ∧ t.tly.siteImport = s.tly.siteImport ∧
        t.slu.table = s.slu.table ∧ t.slu.tableValid = s.slu.tableValid ∧ t.slu.limit = s.slu.limit ∧ t.slu.tripCount = s.slu.tripCount ∧
        (300 ≤ s.rot.intervalA → s.rot.intervalA ≤ 3600 → 60 ≤ s.rot.intervalB → s.rot.intervalB ≤ 1800 →
          let dueNow : Option Nat → Bool := fun x => x.any fun e => decide (since e < 2147483648)
          let rests : List RestEntry → Nat → Rot → Rot := fun l c r => { r with
            list := l, state := .rest (l.getD c none), aTimer := none, bTimer := some ((now + r.intervalB) % 4294967296),
              cursor := (c + 1) % l.length }
          let moved : Rot :=
            if s.rot.state = .work ∧ dueNow s.rot.aTimer = true then
              (match s.rot.pendingSetting with
                | none => rests s.rot.list s.rot.cursor s.rot
                | some q =>
                  if q.list = [] then { s.rot with
                    list := [], yieldOn := q.yieldOn, pendingSetting := none, cursor := 0, state := .off, aTimer := none, bTimer := none }
                  else rests q.list 0 { s.rot with yieldOn := q.yieldOn, pendingSetting := none })
            else if s.rot.state ≠ .work ∧ s.rot.state ≠ .off ∧ dueNow s.rot.bTimer = true then
              { s.rot with state := .work, bTimer := none, aTimer := some ((now + s.rot.intervalA) % 4294967296) }
            else s.rot
          t.rot = { moved with yieldCount := t.rot.yieldCount } ∧
          (moved ≠ s.rot → t.alc.previousPass = now)) ∧
        (s.slu.trip = .tripped → t.slu.trip = .tripped ∧ t.slu.tripSeconds = min 4294967295 (s.slu.tripSeconds + 1)) ∧
        (s.slu.trip = .normal → t.slu.trip = .normal ∧ t.slu.tripSeconds = s.slu.tripSeconds) ∧
        (s.slu.trip = .holdoff → ∀ e ∈ s.slu.holdoffTimer,
          (since e < 2147483648 → t.slu.trip = .normal) ∧ (2147483648 ≤ since e → t.slu.trip = .holdoff)) ∧
        (2 ≤ since s.alc.previousPass → t.alc.previousPass = now) ∧
        (∀ d : Dock,
          ((s.dock d).state = .vacant ∨ (s.dock d).state = .bound ∨ (s.dock d).state = .faulted → 3 ≤ since (s.dock d).lastReport →
            (t.dock d).state = .silent ∧ (t.dock d).silentSince = some now ∧
              ((t.dock d).cause = (s.dock d).cause ∨ (t.dock d).cause = none)) ∧
          (∀ x ∈ (s.dock d).silentSince, 60 ≤ since x → (t.dock d).state = .absent ∧ (t.dock d).vehicle = none) ∧
          ((s.dock d).state = .disabled ∨ (s.dock d).state = .absent → (t.dock d).state = (s.dock d).state) ∧
          (t.dock d).lastReport = (s.dock d).lastReport) ∧
        (s.dnc.net = .off → ∀ e ∈ s.dnc.recoveryTimer, since e < 2147483648 → t.dnc.net = .active ∧ t.dnc.tec = 0 ∧ t.dnc.recCount = 0) ∧
        (∀ e ∈ s.grid.quietTimer, s.grid.lock = .locked → since e < 2147483648 → t.grid.lock = .quiet ∧ t.grid.notices = []) ∧
        (∀ e ∈ s.fleet.quietTimer, s.fleet.lock = .locked → since e < 2147483648 → t.fleet.lock = .quiet ∧ t.fleet.notices = [])

/-- R156, R160, R32, R65, R67, R121, R123, R148, R159: a counted depot second delivers the new depot time, in every order the owners may be taken
in: no WAITING entry whose point is reached stays WAITING, no override whose expiry is reached stays, the end and the start reached are taken,
the settlement boundary closes its interval, a half-hour boundary has its pass, and a midnight its rollover. While UNSET or at 4,000,000,000
nothing is counted. DESIGN CHOICE: whether a cancel or a revise that waits next comes before the end or the start of the record it names is a
free value (log 35; stated for both), and that end or start, with the start behind the end, is then taken after it; of every other record they
are taken here, at 4,000,000,000 too. One free order is drawn (log 6), and the divider is at 0 (DEDUCED, log 16). -/
def Obligations.DepotSecondDeliversItsMoments : Prop :=
  ∀ (s : State),
    (s.dck.running = true → s.dck.depotTime < 4000000000 →
      let now := s.dck.depotTime + 1
      let first := (nextEventNamed s).filter fun _ => Config.requestFirst s.draws
      ∃ t, exec .depotSecond s = .next t ∧
        t.dck = { s.dck with depotTime := now, depotDivider := 0 } ∧
        (∀ p ∈ t.rpt.plans, p.state = .waiting → now < p.departure - t.rpt.readyLead) ∧
        (∀ o ∈ t.slu.limit, now < o.expiry ∧ s.slu.limit = some o) ∧
        (∀ r ∈ t.evq.head?, r.state = .pending → first ≠ some r.id → now < r.start) ∧
        (let ending := s.evq.head?.filter fun r => decide (first ≠ some r.id ∧ r.state = .active ∧ r.stop ≤ now)
         let left := if ending.isSome then s.evq.tail else s.evq
         let starts := left.head?.filter fun r => decide (first ≠ some r.id ∧ r.state = .pending ∧ r.start ≤ now)
         let started : EventRecord → EventRecord := fun r => { r with state := .active, actualStart := some now }
         let passed : EventRecord → Tally → Tally := fun r y =>
           if y.interval.start + 300 < r.stop ∧ y.interval.start + 300 ≤ now then
             { judged s.tly.meterWeight 300 y with interval := openedAt (y.interval.start + 300) r.committed }
           else y
         let ends := match ending with | some r => s.grid.raise (.event .ended r (some (.complete, r.stop))) | none => s.grid
         t.evq = (match starts with | some r => started r :: left.tail | none => left) ∧
         (ending = none → t.tly.results = s.tly.results) ∧
         (∀ r ∈ ending, ∀ y ∈ s.tly.tally, now < y.interval.start + 600 → ∀ x ∈ t.tly.results.getLast?,
           let closed := judged s.tly.meterWeight (r.stop - (passed r y).interval.start) (passed r y)
           x.eventId = r.id ∧ x.cause = .complete ∧ x.actualEnd = r.stop ∧ x.committedFinal = r.committed ∧
             x.intervalsTotal = closed.intervalsTotal ∧ x.intervalsMet = closed.intervalsMet ∧ x.worst = closed.worst.getD 0 ∧
             x.divergent = closed.divergent) ∧
         (ending = none → ∀ r ∈ s.evq.head?, r.state = .active → ∀ y ∈ s.tly.tally, ∃ z, t.tly.tally = some z ∧
           z = { passed r y with peakShortfall := z.peakShortfall }) ∧
         (∀ r ∈ starts, t.dnc.echo.state ≠ .running ∧ ∃ y, t.tly.tally = some y ∧ y.eventId = r.id ∧ y.interval = openedAt now r.committed) ∧
         t.grid = (match starts with | some r => ends.raise (.event .started (started r) none) | none => ends)) ∧
        (now % 1800 = 0 → t.alc.previousPass = s.dck.uptime) ∧
        (now % 86400 = 0 → t.slu.tripSeconds = 0 ∧ t.slu.tableValid = (s.slu.tableValid && s.slu.daily) ∧
          ∀ d : Dock, (t.dock d).dayThroughput = 0) ∧
        (now % 86400 ≠ 0 → t.slu.tripSeconds = s.slu.tripSeconds ∧ t.slu.tableValid = s.slu.tableValid ∧
          ∀ d : Dock, (t.dock d).dayThroughput = (s.dock d).dayThroughput) ∧
        t.slu.trip = s.slu.trip ∧ t.slu.table = s.slu.table ∧
        (∀ d : Dock, (t.dock d).state = (s.dock d).state ∧ (t.dock d).vehicle = (s.dock d).vehicle ∧ (t.dock d).stored = (s.dock d).stored)) ∧
    (s.dck.running = false ∨ 4000000000 ≤ s.dck.depotTime → exec .depotSecond s = .next { s with draws := s.draws + 1 })

/-- R78, R121, R123: the allocation timer runs a pass when 2 s have passed since the previous pass; a half-hour boundary does; a reached override
expiry removes the override first. R159, R43, R139, R119, R132, R133: an announced rollover returns AUTO holds to NONE, clears day throughputs
and trip seconds and invalidates a today-only table, EXPERM with it. R32: the DUE check of one vehicle's entry. DESIGN CHOICE (log 7, log 8):
where its condition does not hold a commanded moment or expiry is not taken; rollover and boundary are taken whenever the clock runs. -/
def Obligations.TimedMomentsAreTaken : Prop :=
  ∀ (v : Nat) (s : State),
    (2 ≤ (s.dck.uptime + 4294967296 - s.alc.previousPass) % 4294967296 → exec .allocationTimerExpiry s = .next (runPass s)) ∧
    ((s.dck.uptime + 4294967296 - s.alc.previousPass) % 4294967296 < 2 → exec .allocationTimerExpiry s = .next s) ∧
    (s.dck.running = true → exec .halfHourBoundary s = .next (runPass s)) ∧
    (s.dck.running = false → exec .halfHourBoundary s = .next s ∧ exec .dayRollover s = .next s ∧ exec (.planDue v) s = .next s) ∧
    (∀ o ∈ s.slu.limit, o.expiry ≤ s.dck.depotTime →
      exec .overrideExpiry s = .next (runPass { s with slu := { s.slu with limit := none } })) ∧
    ((∀ o ∈ s.slu.limit, s.dck.depotTime < o.expiry) → exec .overrideExpiry s = .next s) ∧
    (s.slu.trip ≠ .tripped → exec .tripRelease s = .next s) ∧
    (s.slu.trip ≠ .holdoff → exec .holdoffExpiry s = .next s) ∧
    (s.rot.state ≠ .work → exec .intervalAExpiry s = .next s) ∧
    (s.rot.state = .off ∨ s.rot.state = .work → exec .intervalBExpiry s = .next s) ∧
    (s.dck.running = true →
      ∃ t, exec .dayRollover s = .next t ∧
        t.rpt = { s.rpt with plans := s.rpt.plans.map fun p =>
          if p.hold = .hold ∧ p.source = some .auto then { p with hold := .none, source := none } else p } ∧
        (∀ d : Dock, t.dock d = { s.dock d with dayThroughput := 0 }) ∧
        t.slu = { s.slu with
          tableValid := s.slu.tableValid && s.slu.daily, tripSeconds := 0
          experm := decide (s.slu.trip = .normal) && (s.slu.tableValid && s.slu.daily) } ∧
        t.fleet = (s.rpt.plans.filter fun p => decide (p.hold = .hold ∧ p.source = some .auto)).foldl
          (fun q p => q.raise (.hold p.vehicle .rollover .none none p.pendingHold)) s.fleet ∧
        t.evq = s.evq ∧ t.alc = s.alc ∧ t.rot = s.rot ∧ t.tly = s.tly ∧ t.dck = s.dck ∧ t.dnc = s.dnc ∧ t.grid = s.grid) ∧
    (s.dck.running = true →
      exec (.planDue v) s = .next { s with rpt := { s.rpt with plans := s.rpt.plans.map fun p =>
        if p.vehicle = v ∧ p.state = .waiting ∧ p.departure - s.rpt.readyLead ≤ s.dck.depotTime then { p with state := .due } else p } })

/-- R157, R73, R75, R119, R132: TIME SET. Its two checks; else the clock holds t and runs, the divider restarts, the answer carries t and whether
it was a rollover; a rollover clears the day's figures. A forward set expires, in start order, every PENDING record whose end t has reached: each
leaves a result EXPIRED and a notice ENDED (R75, R151, R152), then the first one left starts with actual start t when t has reached its start
(R65, R76). A set into another half hour, and the first one, have a pass (R123). The free order drawn is the model's own (DESIGN CHOICE: log 6),
and so is the holding a request row stands in (log 9). -/
def Obligations.TimeSetMovesTheClock : Prop :=
  ∀ (t : Nat) (s : State),
    let roll := !s.dck.running || decide (t / 86400 ≠ s.dck.depotTime / 86400)
    let body := [0, 0] ++ le32 t ++ [flagByte roll]
    let k := s.asked (.timeSet t)
    (if 4000000000 < t then exec (.timeSet t) s = .next ((s.asked (.timeSet t)).answering .grid 0x90 [2, 4])
    else if (s.evq.any fun r => decide (r.state = .active)) = true then
      exec (.timeSet t) s = .next ((s.asked (.timeSet t)).answering .grid 0x90 [2, 6])
    else
      ∃ u, exec (.timeSet t) s = .next u ∧
        u.dck = { s.dck with depotTime := t, depotDivider := 0, running := true, lastChange := .set, lastChangeUptime := s.dck.uptime } ∧
        u.grid.lastAnswer = some { kind := 0x90, body := body } ∧
        u.draws = s.draws + 1 ∧ u.slu.trip = s.slu.trip ∧ u.slu.table = s.slu.table ∧
        u.slu.tableValid = (s.slu.tableValid && (s.slu.daily || !roll)) ∧
        u.slu.experm = (decide (s.slu.trip = .normal) && u.slu.tableValid) ∧
        u.slu.tripSeconds = (if roll then 0 else s.slu.tripSeconds) ∧
        (∀ d : Dock, (u.dock d).dayThroughput = (if roll then 0 else (s.dock d).dayThroughput) ∧ (u.dock d).state = (s.dock d).state ∧
          (u.dock d).vehicle = (s.dock d).vehicle) ∧
        (s.dck.running = false ∨ s.dck.depotTime < t →
          (∀ r ∈ u.evq, r.state = .pending → t < r.stop) ∧ (∀ r ∈ u.evq.head?, r.state = .pending → t < r.start) ∧
          (∀ o ∈ u.slu.limit, t < o.expiry) ∧ (∀ p ∈ u.rpt.plans, p.state = .waiting → t < p.departure - u.rpt.readyLead)) ∧
        (s.dck.running = false ∨ s.dck.depotTime < t →
          let out := s.evq.filter fun r => decide (r.stop ≤ t)
          let left := s.evq.filter fun r => decide (t < r.stop)
          let starts := left.head?.filter fun r => decide (r.start ≤ t)
          let started : EventRecord → EventRecord := fun r => { r with state := .active, actualStart := some t }
          let expired : EventRecord → Result := fun r => {
            eventId := r.id, start := r.start, stop := r.stop, actualStart := none, actualEnd := r.stop, cause := .expired
            committedInitial := r.committedInitial, committedFinal := r.committed, meterNet := 0, dockExport := 0, dockIntake := 0
            intervalsTotal := 0, intervalsMet := 0, worst := 0, divergent := 0, peakShortfall := 0, tripSeconds := 0, yields := 0, read := false
            participants := [] }
          let list := s.tly.results ++ out.map expired
          let lost := ((list.take (list.length - 6)).filter fun x => !x.read).length
          let ends := out.foldl (fun p r => p.raise (.event .ended r (some (.expired, r.stop)))) k.grid
          u.evq = (match starts with | some r => started r :: left.tail | none => left) ∧
          (s.tly.results.length ≤ 6 → u.tly.results = list.drop (list.length - 6) ∧
            u.tly.resultsLost = (if lost = 0 then s.tly.resultsLost else min 255 (s.tly.resultsLost + lost))) ∧
          (∀ r ∈ starts, u.dnc.echo.state ≠ .running ∧ ∃ y, u.tly.tally = some y ∧ y.eventId = r.id ∧ y.interval = openedAt t r.committed) ∧
          u.grid = (State.answering
            { k with grid := (match starts with | some r => ends.raise (.event .started (started r) none) | none => ends) } .grid 0x90 body).grid) ∧
        (s.dck.running = false ∨ t / 1800 ≠ s.dck.depotTime / 1800 → u.alc.previousPass = s.dck.uptime) ∧
        (s.dck.running = true → t ≤ s.dck.depotTime →
          u.evq = s.evq ∧ u.slu.limit = s.slu.limit ∧ u.tly.results = s.tly.results ∧ u.grid = (k.answering .grid 0x90 body).grid))

/-- R158, R74, R159: TIME TRIM. Its two checks; else depot time moves by d within its range, the divider stays, and the answer carries the new
depot time, DONE-CLAMPED when it was brought into the range. Only a trim to a later day is a rollover. A forward trim ends the ACTIVE record
whose end it reaches, COMPLETE at its end and with its intervals judged (R67, R145 to R149), else takes the settlement boundary it reaches
(R148), and starts the first PENDING record whose start it reaches, with actual start the new time; the notices go in that order. A trim into
another half hour has a pass (R123). A backward trim reaches no moment. DESIGN CHOICE: the holding a request row stands in is log 9. -/
def Obligations.TimeTrimMovesTheClock : Prop :=
  ∀ (d : Int) (s : State),
    let t := (max 0 (min 4000000000 ((s.dck.depotTime : Int) + d))).toNat
    let roll := decide (s.dck.depotTime / 86400 < t / 86400)
    let body := [if (s.dck.depotTime : Int) + d < 0 ∨ 4000000000 < (s.dck.depotTime : Int) + d then 1 else 0, 0] ++ le32 t
    let k := s.asked (.timeTrim d)
    (if s.dck.running = false then exec (.timeTrim d) s = .next ((s.asked (.timeTrim d)).answering .grid 0x91 [2, 5])
    else if d < -30 ∨ 30 < d then exec (.timeTrim d) s = .next ((s.asked (.timeTrim d)).answering .grid 0x91 [2, 4])
    else
      ∃ u, exec (.timeTrim d) s = .next u ∧
        u.dck = { s.dck with depotTime := t, lastChange := .trim, lastChangeUptime := s.dck.uptime } ∧
        u.grid.lastAnswer = some { kind := 0x91, body := body } ∧
        u.slu.tableValid = (s.slu.tableValid && (s.slu.daily || !roll)) ∧ u.slu.tripSeconds = (if roll then 0 else s.slu.tripSeconds) ∧
        u.slu.trip = s.slu.trip ∧
        (∀ e : Dock, (u.dock e).dayThroughput = (if roll then 0 else (s.dock e).dayThroughput) ∧ (u.dock e).state = (s.dock e).state ∧
          (u.dock e).vehicle = (s.dock e).vehicle) ∧
        (s.dck.depotTime < t →
          (∀ o ∈ u.slu.limit, t < o.expiry) ∧ (∀ r ∈ u.evq.head?, r.state = .pending → t < r.start) ∧
          (∀ p ∈ u.rpt.plans, p.state = .waiting → t < p.departure - u.rpt.readyLead)) ∧
        (s.dck.depotTime < t →
          let ending := s.evq.head?.filter fun r => decide (r.state = .active ∧ r.stop ≤ t)
          let left := if ending.isSome then s.evq.tail else s.evq
          let starts := left.head?.filter fun r => decide (r.state = .pending ∧ r.start ≤ t)
          let started : EventRecord → EventRecord := fun r => { r with state := .active, actualStart := some t }
          let passed : EventRecord → Tally → Tally := fun r y =>
            if y.interval.start + 300 < r.stop ∧ y.interval.start + 300 ≤ t then
              { judged s.tly.meterWeight 300 y with interval := openedAt (y.interval.start + 300) r.committed }
            else y
          let ends := match ending with | some r => k.grid.raise (.event .ended r (some (.complete, r.stop))) | none => k.grid
          u.evq = (match starts with | some r => started r :: left.tail | none => left) ∧
          (ending = none → u.tly.results = s.tly.results) ∧
          (∀ r ∈ ending, ∀ y ∈ s.tly.tally, t < y.interval.start + 600 → ∀ x ∈ u.tly.results.getLast?,
            let closed := judged s.tly.meterWeight (r.stop - (passed r y).interval.start) (passed r y)
            x.eventId = r.id ∧ x.cause = .complete ∧ x.actualEnd = r.stop ∧ x.committedFinal = r.committed ∧
              x.intervalsTotal = closed.intervalsTotal ∧ x.intervalsMet = closed.intervalsMet ∧ x.worst = closed.worst.getD 0 ∧
              x.divergent = closed.divergent) ∧
          (ending = none → ∀ r ∈ s.evq.head?, r.state = .active → ∀ y ∈ s.tly.tally, ∃ z, u.tly.tally = some z ∧
            z = { passed r y with peakShortfall := z.peakShortfall }) ∧
          (∀ r ∈ starts, u.dnc.echo.state ≠ .running ∧ ∃ y, u.tly.tally = some y ∧ y.eventId = r.id ∧ y.interval = openedAt t r.committed) ∧
          u.grid = (State.answering
            { k with grid := (match starts with | some r => ends.raise (.event .started (started r) none) | none => ends) } .grid 0x91 body).grid) ∧
        (t / 1800 ≠ s.dck.depotTime / 1800 → u.alc.previousPass = s.dck.uptime) ∧
        (t ≤ s.dck.depotTime →
          u.evq = s.evq ∧ u.slu.limit = s.slu.limit ∧ u.tly.results = s.tly.results ∧ u.grid = (k.answering .grid 0x91 body).grid))

/-! ### Events (R55 to R76, R142 to R152) -/

/-- R65, R66, R142, R108, R76: the first record starts when it is PENDING and its start is reached: it is ACTIVE from now, the tally is open with
its first interval, the rotation is in WORK at the head of its list, a running echo test ends ABORTED, a pass has run, and the Grid Link has the
notice STARTED. Otherwise nothing is taken (log 7). DESIGN CHOICE (log 39): the test aborted keeps the sequence it has, also when the ECHO of
that sequence was never sent (R177). -/
def Obligations.EventStartOpensTheEvent : Prop :=
  ∀ (s : State),
    (match s.evq with
      | r :: rest =>
        if r.state = .pending ∧ r.start ≤ s.dck.depotTime then
          ∃ t, exec .eventStart s = .next t ∧
            t.evq = { r with state := .active, actualStart := some s.dck.depotTime } :: rest ∧
            t.tly = { s.tly with tally := some {
              eventId := r.id, meterNet := 0, dockExport := 0, dockIntake := 0, participants := [], intervalsTotal := 0, intervalsMet := 0
              worst := none, divergent := 0, peakShortfall := t.alc.lastShortfall, tripSeconds := 0
              interval := { start := s.dck.depotTime, committed := r.committed, meterNet := 0, dockExport := 0, dockIntake := 0 } } } ∧
            (s.rot.list ≠ [] →
              t.rot = { s.rot with
                yieldCount := 0, cursor := 0, state := .work, bTimer := none
                aTimer := some ((s.dck.uptime + s.rot.intervalA) % 4294967296) }) ∧
            (s.rot.list = [] → t.rot.state = s.rot.state ∧ t.rot.aTimer = s.rot.aTimer ∧ t.rot.bTimer = s.rot.bTimer) ∧
            t.alc.previousPass = s.dck.uptime ∧
            (s.dnc.echo.state = .running → t.dnc.echo = { s.dnc.echo with state := .aborted, wait := none } ∧ t.dnc.queuedEcho = none) ∧
            (s.dnc.echo.state ≠ .running → t.dnc.echo = s.dnc.echo ∧ t.dnc.queuedEcho = s.dnc.queuedEcho) ∧
            t.grid = s.grid.raise (.event .started { r with state := .active, actualStart := some s.dck.depotTime } none) ∧
            t.slu = s.slu ∧ t.dck = s.dck ∧
            (∀ d : Dock, (t.dock d).state = (s.dock d).state ∧ (t.dock d).vehicle = (s.dock d).vehicle)
        else exec .eventStart s = .next s
      | [] => exec .eventStart s = .next s)

/-- R67, R68, R145 to R150, R152, R41, R112, R76: the ACTIVE record ends COMPLETE when its end is reached: it leaves the queue; a boundary
already passed and then the last interval are judged, and the tally becomes the newest result with the record's end as actual end; every pending
hold becomes HOLD (MANUAL), and a participant with the after-event flag at NONE becomes HOLD (AUTO); the rotation goes OFF and takes up a pending
setting, a pass runs without an event, and the Grid Link has the notice ENDED. DESIGN CHOICE: EVENT_END stands for this end alone (log 28), and
where none is reached it changes nothing (log 7). -/
def Obligations.EventEndClosesTheEvent : Prop :=
  ∀ (s : State),
    (match s.evq with
      | r :: rest =>
        if r.state = .active ∧ r.stop ≤ s.dck.depotTime then
          ∃ t, exec .eventEnd s = .next t ∧ t.evq = rest ∧ t.slu = s.slu ∧ t.dck = s.dck ∧
            (s.EventsOk → ∀ y ∈ s.tly.tally,
              let w := s.tly.meterWeight
              let passed : Tally :=
                if y.interval.start + 300 < r.stop ∧ y.interval.start + 300 ≤ s.dck.depotTime then
                  { judged w 300 y with interval := openedAt (y.interval.start + 300) r.committed }
                else y
              let closed := judged w (r.stop - passed.interval.start) passed
              let held : Plan → Option (Plan × HoldCause) := fun p =>
                if p.pendingHold then some ({ p with hold := .hold, source := some .manual, pendingHold := false }, .deferred)
                else if p.vehicle ∈ y.participants.map Prod.fst ∧ p.afterEvent = true ∧ p.hold = .none then
                  some ({ p with hold := .hold, source := some .auto }, .afterEvent)
                else none
              let x : Result := {
                eventId := r.id, start := r.start, stop := r.stop, actualStart := r.actualStart, actualEnd := r.stop, cause := .complete
                committedInitial := r.committedInitial, committedFinal := r.committed, meterNet := y.meterNet, dockExport := y.dockExport
                dockIntake := y.dockIntake, intervalsTotal := closed.intervalsTotal, intervalsMet := closed.intervalsMet
                worst := closed.worst.getD 0, divergent := closed.divergent, peakShortfall := y.peakShortfall, tripSeconds := y.tripSeconds
                yields := s.rot.yieldCount, read := false, participants := y.participants }
              t.tly = { s.tly with
                tally := none
                results := (if s.tly.results.length < 6 then s.tly.results else s.tly.results.tail) ++ [x]
                resultsLost := if s.tly.results.length = 6 ∧ s.tly.results.head?.any (fun z => !z.read) = true then min 255 (s.tly.resultsLost + 1)
                  else s.tly.resultsLost } ∧
              t.rpt = { s.rpt with plans := s.rpt.plans.map fun p => match held p with | some z => z.1 | none => p } ∧
              t.fleet = ((s.rpt.plans.filterMap held).foldl
                (fun q z => q.raise (.hold z.1.vehicle z.2 z.1.hold z.1.source z.1.pendingHold)) s.fleet).raise
                  (.event .ended r (some (.complete, r.stop))) ∧
              t.rot = { s.rot with
                state := .off, aTimer := none, bTimer := none, cursor := 0, pendingSetting := none
                list := match s.rot.pendingSetting with | some q => q.list | none => s.rot.list
                yieldOn := match s.rot.pendingSetting with | some q => q.yieldOn | none => s.rot.yieldOn } ∧
              t.alc.previousPass = s.dck.uptime ∧ t.alc.lastShortfall = 0 ∧ t.alc.lastYield = false ∧
              (∀ d : Dock, (t.dock d).share = 0 ∧ (t.dock d).state = (s.dock d).state) ∧
              t.grid = s.grid.raise (.event .ended r (some (.complete, r.stop))))
        else exec .eventEnd s = .next s
      | [] => exec .eventEnd s = .next s)

/-- R145, R146, R147, R148, R40: at the boundary of the interval in progress the interval is judged over 300 s, the next opens at the boundary
with the committed power as it now stands, every pending hold becomes HOLD (MANUAL), and a pass runs exactly when one was pending. DESIGN CHOICE
(log 7): where no boundary is reached SETTLEMENT_BOUNDARY changes nothing. -/
def Obligations.SettlementBoundaryJudgesTheInterval : Prop :=
  ∀ (s : State),
    ∀ r ∈ s.evq.head?, ∀ y ∈ s.tly.tally,
      let i := y.interval
      if r.state = .active ∧ i.start + 300 < r.stop ∧ i.start + 300 ≤ s.dck.depotTime then
        ∃ t, exec .settlementBoundary s = .next t ∧
          (∃ z, t.tly.tally = some z ∧
            z = { judged s.tly.meterWeight 300 y with
              peakShortfall := z.peakShortfall, interval := openedAt (i.start + 300) r.committed } ∧
            (s.rpt.plans.any Plan.pendingHold = false → z.peakShortfall = y.peakShortfall)) ∧
          (∀ p ∈ t.rpt.plans, p.pendingHold = false) ∧
          (s.rpt.plans.any Plan.pendingHold = false → t.rpt = s.rpt ∧ t.alc = s.alc ∧ t.docks = s.docks ∧ t.dnc = s.dnc ∧ t.fleet = s.fleet) ∧
          (s.rpt.plans.any Plan.pendingHold = true → t.alc.previousPass = s.dck.uptime ∧
            ∀ p ∈ s.rpt.plans, p.pendingHold = true → { p with hold := .hold, source := some .manual, pendingHold := false } ∈ t.rpt.plans) ∧
          t.evq = s.evq ∧ t.slu = s.slu ∧ t.dck = s.dck ∧ t.grid = s.grid ∧ t.tly.results = s.tly.results
      else exec .settlementBoundary s = .next s

/-- R109, R110, R111: the A timer, due in WORK, takes the rest at the cursor, or takes up a pending setting first and rests at its head, or goes
OFF when the new list is empty; the B timer, due in a rest, returns to WORK. Each runs a pass. -/
def Obligations.RotationTimersChangeTheRest : Prop :=
  ∀ (s : State),
    let u := s.dck.uptime
    let rests : List RestEntry → Nat → Rot → Rot := fun l c r => { r with
      list := l, state := .rest (l.getD c none), aTimer := none
      bTimer := some ((u + r.intervalB) % 4294967296), cursor := (c + 1) % l.length }
    (s.rot.state = .work → ∀ e ∈ s.rot.aTimer, (u + 4294967296 - e) % 4294967296 < 2147483648 →
      exec .intervalAExpiry s = .next (runPass { s with rot :=
        (match s.rot.pendingSetting with
          | none => rests s.rot.list s.rot.cursor s.rot
          | some q =>
            if q.list = [] then { s.rot with
              list := [], yieldOn := q.yieldOn, pendingSetting := none, cursor := 0, state := .off, aTimer := none, bTimer := none }
            else rests q.list 0 { s.rot with yieldOn := q.yieldOn, pendingSetting := none }) })) ∧
    (∀ x ∈ (match s.rot.state with | .rest x => some x | _ => none), ∀ e ∈ s.rot.bTimer, (u + 4294967296 - e) % 4294967296 < 2147483648 →
      s.rot.state = .rest x →
      exec .intervalBExpiry s = .next (runPass { s with rot := { s.rot with
        state := .work, bTimer := none, aTimer := some ((u + s.rot.intervalA) % 4294967296) } }))

/-- R140, R141: an edge on MXP or MIP adds the meter weight to site export or site import, wrapping, and, while a tally is open, its weight
signed to the meter net of the tally and of the interval in progress (sums beyond 32 bits left out, log 11). Nothing else changes. -/
def Obligations.MeterPulsesAreCounted : Prop :=
  ∀ (s : State),
    let w := s.tly.meterWeight
    let edge : Int → State → Prop := fun v t =>
      (match s.tly.tally, t.tly.tally with
        | none, none => True
        | some y, some z =>
          (-2147483648 ≤ y.meterNet + v → y.meterNet + v ≤ 2147483647 → z.meterNet = y.meterNet + v) ∧
          (-2147483648 ≤ y.interval.meterNet + v → y.interval.meterNet + v ≤ 2147483647 → z.interval.meterNet = y.interval.meterNet + v) ∧
          z = { y with meterNet := z.meterNet, interval := { y.interval with meterNet := z.interval.meterNet } }
        | _, _ => False) ∧
      t = { s with tly := { s.tly with siteExport := t.tly.siteExport, siteImport := t.tly.siteImport, tally := t.tly.tally } }
    (∃ t, exec .meterExportPulse s = .next t ∧ t.tly.siteExport = (s.tly.siteExport + w) % 4294967296 ∧ t.tly.siteImport = s.tly.siteImport ∧
      edge w t) ∧
    (∃ t, exec .meterImportPulse s = .next t ∧ t.tly.siteImport = (s.tly.siteImport + w) % 4294967296 ∧ t.tly.siteExport = s.tly.siteExport ∧
      edge (-(w : Int)) t)

/-! ### The link ports (R179 to R187) -/

/-- R181, R182, R183, R184: a good frame makes its port LOCKED with a new quiet timer. The request it is, read from its bytes, is taken at once
when the holding is empty, with its owner's whole effect and its answer; a frame that fails the port's own checks is refused UNKNOWN-KIND,
NOT-PERMITTED or BAD-LENGTH and reaches no owner; the second request waits untaken; a third is an overrun. -/
def Obligations.GoodFrameLocksAndIsTakenInTurn : Prop :=
  ∀ (l : Link) (q : Request) (kind : Byte) (body : List Byte) (n : Nat) (s : State),
    let p := s.port l
    let locked : Port → Port := fun p => { p with
      lock := .locked, badRun := 0, quietTimer := some ((s.dck.uptime + 30) % 4294967296), withinFrame := false }
    let entered : LinkFrame → State := fun f => s.mapPort l fun p => { locked p with holding := [{ request := f, answer := none }] }
    let known := (0x10 ≤ kind.toNat ∧ kind.toNat ≤ 0x19) ∨ (0x30 ≤ kind.toNat ∧ kind.toNat ≤ 0x40) ∨ (0x60 ≤ kind.toNat ∧ kind.toNat ≤ 0x64)
    let otherSet := (l = .fleet ∧ 0x10 ≤ kind.toNat ∧ kind.toNat ≤ 0x19) ∨ (l = .grid ∧ 0x30 ≤ kind.toNat ∧ kind.toNat ≤ 0x40)
    (p.holding = [] → body.length ≤ 249 →
      (¬known → exec (.goodFrame l kind body) s = .next ((entered { kind := kind, body := body }).answering l (kind + 0x80) [2, 2])) ∧
      (otherSet → exec (.goodFrame l kind body) s = .next ((entered { kind := kind, body := body }).answering l (kind + 0x80) [2, 1]))) ∧
    (q.fits = true → q.kind.permitted l = true →
      let f : LinkFrame := { kind := q.kind.code, body := q.body }
      (p.holding = [] →
        let r := runRequest l q (entered f)
        ∃ t, exec (.goodFrame l q.kind.code q.body) s = .next t ∧
          t.docks = r.1.docks ∧ t.rpt = r.1.rpt ∧ t.evq = r.1.evq ∧ t.alc = r.1.alc ∧ t.rot = r.1.rot ∧ t.slu = r.1.slu ∧ t.tly = r.1.tly ∧
          t.dck = r.1.dck ∧ t.dnc = r.1.dnc ∧
          (t.port l).lastAnswer = some { kind := q.kind.code + 0x80, body := r.2.body } ∧
          (t.port l).holding = [{ request := f, answer := some { kind := q.kind.code + 0x80, body := r.2.body } }] ∧
          (t.port l).lock = .locked ∧ (t.port l).quietTimer = some ((s.dck.uptime + 30) % 4294967296) ∧
          (p.sending = none → (t.port l).sending = some (.answer { kind := q.kind.code + 0x80, body := r.2.body })) ∧
          (∀ m : Link, m ≠ l → t.port m = r.1.port m)) ∧
      (p.holding = [] → n < q.body.length →
        exec (.goodFrame l q.kind.code (q.body.take n)) s =
          .next ((entered { f with body := q.body.take n }).answering l (q.kind.code + 0x80) [2, 3])) ∧
      (p.holding = [] → body ≠ [] → (q.body ++ body).length ≤ 249 →
        exec (.goodFrame l q.kind.code (q.body ++ body)) s =
          .next ((entered { f with body := q.body ++ body }).answering l (q.kind.code + 0x80) [2, 3])) ∧
      (∀ h, p.holding = [h] → h.answer.isSome = true → p.sending.isSome = true →
        exec (.goodFrame l q.kind.code q.body) s = .next (s.mapPort l fun p => { locked p with
          holding := [h, { request := f, answer := none }] })) ∧
      (p.holding.length = 2 → (∀ h ∈ p.holding.head?, h.answer.isSome = true) → p.sending.isSome = true →
        exec (.goodFrame l q.kind.code q.body) s = .next (s.mapPort l fun p => { locked p with
          overruns := min 255 (p.overruns + 1) })))

/-- R179, R180, R181: a bad frame is counted, and the fourth in a row in LOCKED returns the port to HUNT; a gap within a frame ends it as a bad
frame, and between frames it is none; a SYNC byte begins a frame; a due quiet timer in LOCKED makes the port QUIET and empties its notices.
DESIGN CHOICE: BAD_FRAME is a whole bad frame, within one or not (log 37), and QUIET_TIMER_EXPIRY outside LOCKED changes nothing (log 7). -/
def Obligations.BadFramesGapsSyncAndQuietMoveTheLock : Prop :=
  ∀ (l : Link) (s : State),
    let p := s.port l
    let bad : Port := { p with
      badFrames := min 255 (p.badFrames + 1), withinFrame := false
      lock := if p.lock = .locked ∧ 4 ≤ p.badRun + 1 then .hunt else p.lock
      badRun := if p.lock = .locked then (if 4 ≤ p.badRun + 1 then 0 else p.badRun + 1) else p.badRun
      quietTimer := if p.lock = .locked ∧ 4 ≤ p.badRun + 1 then none else p.quietTimer }
    exec (.badFrame l) s = .next (s.mapPort l fun _ => bad) ∧
    exec (.linkGapTimeout l) s = .next (s.mapPort l fun _ => if p.withinFrame then bad else p) ∧
    exec (.syncByteBeginsFrame l) s = .next (s.mapPort l fun _ => { p with withinFrame := true }) ∧
    (p.lock = .locked → ∀ e ∈ p.quietTimer, (s.dck.uptime + 4294967296 - e) % 4294967296 < 2147483648 →
      exec (.quietTimerExpiry l) s = .next (s.mapPort l fun _ => { p with lock := .quiet, quietTimer := none, notices := [] })) ∧
    (p.lock ≠ .locked → exec (.quietTimerExpiry l) s = .next s)

/-- R184, R185, R182: at the end of a frame the transmitter sends the ready answer of the first request, else, in LOCKED, the oldest notice, else
nothing; a finished answer lets its request leave and the next one be taken. A raised notice is discarded in QUIET, appended otherwise, and from
a full queue of 8 the oldest is dropped and counted; it is sent at once when the port is LOCKED, idle and holds no request, and waits behind a
frame in transmission and behind a request being taken. DESIGN CHOICE (log 7): LINK_FRAME_SENT with an idle transmitter changes nothing. -/
def Obligations.TransmitterServesAnswersThenNotices : Prop :=
  ∀ (l : Link) (n : Notice) (s : State),
    let p := s.port l
    let next : Port → Port := fun p => (match p.notices with
      | m :: rest => if p.lock = .locked then { p with sending := some (.notice m), notices := rest } else { p with sending := none }
      | [] => { p with sending := none })
    let waits := p.sending.isSome = true ∨ (p.lock = .hunt ∧ p.holding = []) ∨ p.holding.head?.any (fun h => h.answer.isNone) = true
    (p.sending = none → exec (.linkFrameSent l) s = .next s) ∧
    (p.sending.isSome = true → p.holding = [] → exec (.linkFrameSent l) s = .next (s.mapPort l next)) ∧
    (∀ m, p.sending = some (.notice m) → ∀ h ∈ p.holding.head?, ∀ a ∈ h.answer,
      exec (.linkFrameSent l) s = .next (s.mapPort l fun p => { p with sending := some (.answer a) })) ∧
    (∀ a, p.sending = some (.answer a) → p.holding.length = 1 →
      exec (.linkFrameSent l) s = .next (s.mapPort l fun p => next { p with holding := [] })) ∧
    (∀ a, p.sending = some (.answer a) → ∀ h1 h2, p.holding = [h1, h2] → h2.answer = none →
      let u := s.mapPort l fun p => { p with sending := none, holding := [h2] }
      (match readRequest l h2.request.kind h2.request.body with
        | .error reason => exec (.linkFrameSent l) s = .next (u.answering l (h2.request.kind + 0x80) [2, reason.code])
        | .ok q =>
          let r := runRequest l q u
          ∃ t, exec (.linkFrameSent l) s = .next t ∧
            t.docks = r.1.docks ∧ t.rpt = r.1.rpt ∧ t.evq = r.1.evq ∧ t.alc = r.1.alc ∧ t.rot = r.1.rot ∧ t.slu = r.1.slu ∧ t.tly = r.1.tly ∧
            t.dck = r.1.dck ∧ t.dnc = r.1.dnc ∧
            (t.port l).sending = some (.answer { kind := h2.request.kind + 0x80, body := r.2.body }) ∧
            (t.port l).holding = [{ h2 with answer := some { kind := h2.request.kind + 0x80, body := r.2.body } }] ∧
            (∀ m : Link, m ≠ l → t.port m = r.1.port m))) ∧
    (p.lock = .quiet → p.raise n = p) ∧
    (p.lock ≠ .quiet → p.notices.length < 8 → waits →
      p.raise n = { p with notices := p.notices ++ [n] }) ∧
    (p.lock ≠ .quiet → p.notices.length = 8 → waits →
      p.raise n = { p with notices := p.notices.drop 1 ++ [n], droppedNotices := min 255 (p.droppedNotices + 1) }) ∧
    (p.lock = .locked → p.sending = none → p.holding = [] → p.notices = [] → p.raise n = { p with sending := some (.notice n) })

/-! ### Requests: every request row is its frame, taken (R182, R183) -/

/-- DESIGN CHOICE (log 9): a command that is a request has the effect and the answer of its frame as its owner takes it on its link; a request of
an unknown kind is answered REFUSED UNKNOWN-KIND and changes nothing else (R183, R197), and a kind of the catalogue makes no such request (log
32). -/
def Obligations.RequestRowsAreTheirFramesTaken : Prop :=
  ∀ (c : Instr) (l : Link) (k : Byte) (s : State),
    (∀ lq ∈ requestOf c,
      let r := runRequest lq.1 lq.2 (s.asked c)
      exec c s = .next (r.1.answering lq.1 (lq.2.kind.code + 0x80) r.2.body)) ∧
    exec (.unknownKindRequest l k) s = .next
      (if catalogueKind k then s else (s.holdingRequest l k []).answering l (k + 0x80) [2, 2])

/-! ### Grid Link requests (R118, R120, R125, R55 to R72, R153) -/

/-- R118, R120: HEADROOM LOAD writes its entries, each clamped to 24000, makes the table valid with its daily flag, EXPERM following; HEADROOM
OVERRIDE sets the override, clamped, or removes it, its value unused, when its expiry is not after now. Each runs a pass. Refused, they change
nothing. DESIGN CHOICE: how a request row stands in the holding is log 9. -/
def Obligations.HeadroomRequestsSetTheLimits : Prop :=
  ∀ (first : Nat) (daily : Bool) (values : List Nat) (value expiry : Nat) (s : State),
    (if 47 < first ∨ values = [] ∨ 48 < first + values.length then
      exec (.headroomLoad first daily values) s = .next ((s.asked (.headroomLoad first daily values)).answering .grid 0x92 [2, 3])
    else
      ∃ t, exec (.headroomLoad first daily values) s = .next t ∧
        (∀ i : Fin 48, t.slu.table[i] =
          (if first ≤ i.val ∧ i.val < first + values.length then min (values.getD (i.val - first) 0) 24000 else s.slu.table[i])) ∧
        t.slu = { s.slu with
          table := t.slu.table, tableValid := true, daily := daily
          experm := decide (s.slu.trip = .normal) && s.dck.running } ∧
        t = (runPass { s.asked (.headroomLoad first daily values) with
          slu := t.slu }).answering .grid 0x92 [if values.any (fun v => decide (24000 < v)) then 1 else 0, 0]) ∧
    (if s.dck.running = false then exec (.headroomOverride value expiry) s =
      .next ((s.asked (.headroomOverride value expiry)).answering .grid 0x93 [2, 5])
    else if 4000000000 < expiry then exec (.headroomOverride value expiry) s =
      .next ((s.asked (.headroomOverride value expiry)).answering .grid 0x93 [2, 4])
    else
      exec (.headroomOverride value expiry) s = .next (State.answering (runPass { s.asked (.headroomOverride value expiry) with slu := { s.slu with
        limit := if s.dck.depotTime < expiry then some { value := min value 24000, expiry := expiry } else none } })
        .grid 0x93 [if 24000 < value ∧ s.dck.depotTime < expiry then 1 else 0, 0, flagByte (decide (s.dck.depotTime < expiry))]))

/-- R125, R193, R45, R106, R124, R140: TRIP HOLDOFF SET and PARAMETER SET write the value, brought into its range, at its one owner, and answer
the value taken, DONE-CLAMPED when it is not the one sent; a running timer and the outputs stay, and no pass runs. R23, R26, R27, R28: GROUP SET,
DOCK MANUAL and DOCK AUTO write one record. A group above 3 is clamped to 3; a manual value is clamped to the ratings of a BOUND record, and
refused in any other state; an address outside 1..40 is refused. No pass runs. DESIGN CHOICE: how a request row stands in the holding is log 9.
-/
def Obligations.SettingsAreClampedAndWrittenAtTheirOwners : Prop :=
  ∀ (x id value a group : Nat) (power : Int) (d : Dock) (s : State),
    (let v := max 10 (min 600 x)
     exec (.tripHoldoffSet x) s = .next (State.answering { s.asked (.tripHoldoffSet x) with slu := { s.slu with holdoff := v } } .grid 0x94
      ([if v = x then 0 else 1, 0] ++ le16 v))) ∧
    (let range : Option (Nat × Nat) := (match id with
      | 1 => some (0, 50) | 2 => some (10, 60) | 3 => some (0, 600) | 4 => some (50, 100) | 5 => some (0, 7200) | 6 => some (0, 200)
      | 7 => some (0, 24000) | 8 => some (10, 24000) | 9 => some (300, 3600) | 10 => some (60, 1800) | 11 => some (0, 1000) | _ => none)
     match range with
      | none => exec (.parameterSet id value) s = .next ((s.asked (.parameterSet id value)).answering .fleet 0xB5 [2, 3])
      | some (lo, hi) =>
        let v := max lo (min hi value)
        let k := s.asked (.parameterSet id value)
        exec (.parameterSet id value) s = .next (State.answering
          (match id with
            | 1 => { k with rpt := { s.rpt with margin := v } }
            | 2 => { k with rpt := { s.rpt with keep := v } }
            | 3 => { k with rpt := { s.rpt with planningIntake := v } }
            | 4 => { k with rpt := { s.rpt with planningEfficiency := v } }
            | 5 => { k with rpt := { s.rpt with readyLead := v } }
            | 6 => { k with rpt := { s.rpt with shortBand := v } }
            | 7 => { k with slu := { s.slu with intakeCeiling := v } }
            | 8 => { k with slu := { s.slu with rampRate := v } }
            | 9 => { k with rot := { s.rot with intervalA := v } }
            | 10 => { k with rot := { s.rot with intervalB := v } }
            | 11 => { k with tly := { s.tly with meterWeight := v } }
            | _ => k) .fleet 0xB5 ([if v = value then 0 else 1, 0] ++ le16 v))) ∧
    (a = 0 ∨ 40 < a →
      exec (.groupSet a group) s = .next ((s.asked (.groupSet a group)).answering .fleet 0xB8 [2, 13]) ∧ exec (.dockManual a power) s =
        .next ((s.asked (.dockManual a power)).answering .fleet 0xB9 [2, 13]) ∧
      exec (.dockAuto a) s = .next ((s.asked (.dockAuto a)).answering .fleet 0xBA [2, 13])) ∧
    (∃ t, exec (.groupSet d.addr group) s = .next t ∧
      (t.dock d).group.val = min group 3 ∧ t.dock d = { s.dock d with group := (t.dock d).group } ∧
      t = ((s.asked (.groupSet d.addr group)).setDock d (t.dock d)).answering .fleet 0xB8 [if 3 < group then 1 else 0, 0,
        BitVec.ofNat 8 (min group 3)]) ∧
    (let r := s.dock d
     if r.state = .bound then
      let v := max (-(r.ratedIntake : Int)) (min (r.ratedExport : Int) power)
      exec (.dockManual d.addr power) s =
        .next (((s.asked (.dockManual d.addr power)).setDock d { r with steering := .manual, manual := some v }).answering .fleet 0xB9
        ([if v = power then 0 else 1, 0] ++ le16 (v % 65536).toNat))
     else exec (.dockManual d.addr power) s = .next ((s.asked (.dockManual d.addr power)).answering .fleet 0xB9 [2, 14])) ∧
    exec (.dockAuto d.addr) s = .next (((s.asked (.dockAuto d.addr)).setDock d { s.dock d with
      steering := .allocator, manual := none }).answering .fleet 0xBA [0, 0])

/-- R56, R57, R58, R190: the checks on a DISPATCH CALL in their order; a refused call changes nothing, and REFUSED SHORT carries the offer for
[max(s, now), e), the smallest of the call target and the two terms that OFFER QUERY reports (R62, R63). DESIGN CHOICE (log 34): a window ahead
of the ACTIVE record, which R52 has first, is refused OVERLAP. DESIGN CHOICE: how a request row stands in the holding is log 9. -/
def Obligations.DispatchCallIsCheckedInOrder : Prop :=
  ∀ (id start stop target minAccept : Nat) (s : State),
    let now := s.dck.depotTime
    let active := s.evq.any fun r => decide (r.state = .active)
    let k := s.asked (.dispatchCall id start stop target minAccept)
    let offer := min target (min (headroomTerm s (max start now) stop) (energyTerm s (max start now) stop))
    let call := exec (.dispatchCall id start stop target minAccept) s
    if s.dck.running = false then call = .next (k.answering .grid 0x95 [2, 5])
    else if id = 0 ∨ id ∈ s.evq.map EventRecord.id ∨ id ∈ s.tly.results.map Result.eventId then call = .next (k.answering .grid 0x95 [2, 20])
    else if stop < start + 300 ∨ start + 14400 < stop ∨ now + 172800 < start ∨ 4000000000 < stop then call = .next (k.answering .grid 0x95 [2, 10])
    else if stop ≤ now then call = .next (k.answering .grid 0x95 [2, 9])
    else if (∃ r ∈ s.evq, start < r.stop ∧ r.start < stop) ∨ (start ≤ now ∧ active = true) ∨ (∃ r ∈ s.evq, r.state = .active ∧ start < r.start)
      then call = .next (k.answering .grid 0x95 [2, 8])
    else if 8 ≤ s.evq.length then call = .next (k.answering .grid 0x95 [2, 7])
    else if offer < 10 ∨ target < 10 ∨ (offer < target ∧ offer < minAccept) then
      call = .next (k.answering .grid 0x95 ([2, 17] ++ le16 offer))
    else ∃ t, call = .next t ∧ t.evq.length = s.evq.length + 1

/-- R58, R59, R60, R76: a DISPATCH CALL that passes its checks is inserted in start order with the committed power of the decision, by the offer
(the smallest of the call target and the two terms of the window), and announced; one that is not late changes nothing else; a late call starts
at once at the head of the queue, with actual start now. (Calls that check 5 refuses, log 34 among them, are shut out here and stated with the
checks.) DESIGN CHOICE: how a request row stands in the holding is log 9. -/
def Obligations.AcceptedCallIsInsertedOrStarted : Prop :=
  ∀ (id start stop target minAccept : Nat) (s : State),
    let now := s.dck.depotTime
    let offer := min target (min (headroomTerm s (max start now) stop) (energyTerm s (max start now) stop))
    let committed := if target ≤ offer then target else offer
    let r : EventRecord := { id := id, start := start, stop := stop, target := target, committedInitial := committed, committed := committed,
                             state := .pending, actualStart := none }
    let k := s.asked (.dispatchCall id start stop target minAccept)
    s.EventsOk → s.dck.running = true → id ≠ 0 → id ∉ s.eventIds → start + 300 ≤ stop → stop ≤ start + 14400 → start ≤ now + 172800 →
    stop ≤ 4000000000 → now < stop → (∀ x ∈ s.evq, (stop ≤ x.start ∧ x.state = .pending) ∨ x.stop ≤ start) → s.evq.length < 8 →
    10 ≤ target → 10 ≤ offer → minAccept ≤ offer ∨ target ≤ offer →
    (now < start →
      exec (.dispatchCall id start stop target minAccept) s = .next (State.answering
        { k with
          evq := (s.evq.filter fun x => decide (x.start < start)) ++ r :: s.evq.filter fun x => decide (start < x.start)
          grid := k.grid.raise (.event .called r none)
          fleet := k.fleet.raise (.event .called r none) }
        .grid 0x95 ([0, 0, flagByte (decide (offer < target))] ++ le16 committed ++ le16 offer ++ [0]))) ∧
    (start ≤ now → activeRecord s.evq = none → (∀ x ∈ s.evq, now < x.start) →
      ∃ t, exec (.dispatchCall id start stop target minAccept) s = .next t ∧
        t.evq = { r with state := .active, actualStart := some now } :: s.evq ∧
        (∃ y, t.tly.tally = some y ∧ y.eventId = id ∧ y.interval = openedAt now committed) ∧
        t.alc.previousPass = s.dck.uptime ∧ t.slu = s.slu ∧ t.dck = s.dck ∧
        t.grid = (State.answering
          { k with grid := (k.grid.raise (.event .called r none)).raise (.event .started { r with
            state := .active, actualStart := some now } none) }
          .grid 0x95 ([0, 0, flagByte (decide (offer < target))] ++ le16 committed ++ le16 offer ++ [1])).grid)

/-- R69, R70, R71, R76: DISPATCH REVISE is checked in order against its record and, when good, changes its committed power (from 10 up) and end
alone, and announces it; DISPATCH CANCEL withdraws a PENDING record without a result, and ends the ACTIVE one CANCELLED with actual end now (of
sound link ports, an invariant of every step, since which request waits next is asked after the notice ENDED). DESIGN CHOICE (log 35): at the
depot moment of the end or the start of the record named they may be taken before it (R69, R72: at now = end a revise with a new end is refused
BAD-WINDOW), and that end and start are then taken after them. DESIGN CHOICE (log 40): check 5 holds for an unchanged end too. DESIGN CHOICE: how
a request row stands in the holding is log 9. -/
def Obligations.ReviseAndCancelActOnTheRecordNamed : Prop :=
  ∀ (id target stop : Nat) (s : State),
    let kr := s.asked (.dispatchRevise id target stop)
    let kc := s.asked (.dispatchCancel id)
    s.EventsOk →
    (id ∉ s.evq.map EventRecord.id →
      exec (.dispatchRevise id target stop) s = .next ((takenAfter kr).answering .grid 0x96 [2, 19]) ∧
      exec (.dispatchCancel id) s = .next ((takenAfter kc).answering .grid 0x97 [2, 19])) ∧
    (∀ r ∈ s.evq, r.id = id →
      let from' := match r.state with | .active => r.actualStart.getD 0 | .pending => r.start
      let r' : EventRecord := { r with
        committed := if target = 0 then r.committed else if target < 10 then 10 else target
        stop := if stop = 0 then r.stop else stop }
      (if target ≠ 0 ∧ r.committed < target then
        exec (.dispatchRevise id target stop) s = .next ((takenAfter kr).answering .grid 0x96 [2, 18])
      else if stop ≠ 0 ∧ (r.stop < stop ∨ stop ≤ s.dck.depotTime ∨ stop < from' + 300) then
        exec (.dispatchRevise id target stop) s = .next ((takenAfter kr).answering .grid 0x96 [2, 10])
      else
        exec (.dispatchRevise id target stop) s = .next (State.answering (takenAfter
          { kr with
            evq := s.evq.map fun x => if x.id = id then r' else x
            grid := kr.grid.raise (.event .revised r' none)
            fleet := kr.fleet.raise (.event .revised r' none) })
          .grid 0x96 ([if target ≠ 0 ∧ target < 10 then 1 else 0, 0] ++ queueRecord r'))) ∧
      (r.state = .pending →
        exec (.dispatchCancel id) s = .next (State.answering (takenAfter
          { kc with
            evq := s.evq.filter fun x => decide (x.id ≠ id)
            grid := kc.grid.raise (.event .withdrawn r none)
            fleet := kc.fleet.raise (.event .withdrawn r none) }) .grid 0x97 [0, 0])) ∧
      (r.state = .active → s.PortsOk →
        ∃ t, exec (.dispatchCancel id) s = .next t ∧
          t.evq = (match s.evq.tail with
            | [] => []
            | q :: later =>
              if q.start ≤ s.dck.depotTime ∧ ¬(Config.requestFirst s.draws = true ∧ nextEventNamed kc = some q.id) then
                { q with state := .active, actualStart := some s.dck.depotTime } :: later
              else q :: later) ∧
          (∀ x ∈ t.tly.results.getLast?, x.eventId = id ∧ x.cause = .cancelled ∧ x.actualEnd = s.dck.depotTime ∧
            x.committedFinal = r.committed) ∧
          t.alc.previousPass = s.dck.uptime ∧ (∀ p ∈ t.rpt.plans, p.pendingHold = false) ∧
          ((∀ q ∈ s.evq.tail.head?, s.dck.depotTime < q.start) → t.tly.tally = none ∧ t.rot.state = .off ∧ t.draws = s.draws ∧
            t.grid = (State.answering { kc with grid := kc.grid.raise (.event .ended r (some (.cancelled, s.dck.depotTime))) }
              .grid 0x97 [0, 0]).grid)))

/-- R153, R195: RESULT QUERY selects the oldest unread result for id 0, else the one with the id; it answers it with its read flag as it stood
and up to 32 participants, and sets that flag alone. With none selected it is refused and changes nothing. DESIGN CHOICE: how a request row
stands in the holding is log 9. -/
def Obligations.ResultQuerySelectsAndMarksRead : Prop :=
  ∀ (id first : Nat) (s : State),
    s.EventsOk →
      (match (if id = 0 then s.tly.results.find? fun x => !x.read else s.tly.results.find? fun x => decide (x.eventId = id)) with
        | none => exec (.resultQuery id first) s = .next ((s.asked (.resultQuery id first)).answering .grid 0x99 [2, 19])
        | some x =>
          let marked := s.tly.results.map fun y => if y = x then { y with read := true } else y
          let page := (x.participants.drop first).take 32
          exec (.resultQuery id first) s = .next (State.answering { s.asked (.resultQuery id first) with tly := { s.tly with
            results := marked } } .grid 0x99
            ([0, 0, BitVec.ofNat 8 (marked.filter fun y => !y.read).length, BitVec.ofNat 8 s.tly.resultsLost] ++ le16 x.eventId ++
              le32 x.start ++ le32 x.stop ++ [flagByte x.actualStart.isSome] ++ le32 (x.actualStart.getD 0) ++ le32 x.actualEnd ++
              [(match x.cause with | .complete => 0 | .cancelled => 1 | .expired => 2 : Byte)] ++ le16 x.committedInitial ++
                le16 x.committedFinal ++
              le32 (x.meterNet % 4294967296).toNat ++ le32 x.dockExport ++ le32 x.dockIntake ++
              [BitVec.ofNat 8 x.intervalsTotal, BitVec.ofNat 8 x.intervalsMet, BitVec.ofNat 8 x.worst, BitVec.ofNat 8 x.divergent] ++
              le16 x.peakShortfall ++ le16 x.tripSeconds ++ le16 x.yields ++ [flagByte x.read] ++
              [BitVec.ofNat 8 x.participants.length, BitVec.ofNat 8 first, BitVec.ofNat 8 page.length] ++
              (page.map fun e => le16 e.1 ++ le32 e.2).flatten)))

/-- R61 to R64: OFFER QUERY changes nothing; its checks in order, then the offer's terms, the number of candidates and the smaller term. The
headroom term is 0 without a valid table, and otherwise the lowest headroom of the window's pieces: it is the headroom at the window's start or
at a half-hour boundary inside it, and below none of these. The energy term is the sum of the candidates' contributions, each what it can spare
above its floor, with charge-from the window's end, spread over the window, up to its rated export. DESIGN CHOICE: how a request row stands in
the holding is log 9. -/
def Obligations.OfferQueryAnswersTheTermsOfTheOffer : Prop :=
  ∀ (start stop i : Nat) (s : State),
    let now := s.dck.depotTime
    let a := max start now
    let headroomAt : Nat → Nat := fun t =>
      if s.slu.tableValid = false then 0
      else match s.slu.limit.filter (fun o => decide (t < o.expiry)) with
        | some o => o.value
        | none => if s.slu.daily = false ∧ now / 86400 < t / 86400 then 0 else s.slu.table[t % 86400 / 1800]?.getD 0
    (if s.dck.running = false then exec (.offerQuery start stop) s = .next ((s.asked (.offerQuery start stop)).answering .grid 0x98 [2, 5])
    else if stop < start + 300 ∨ start + 14400 < stop ∨ now + 172800 < start ∨ 4000000000 < stop then
      exec (.offerQuery start stop) s = .next ((s.asked (.offerQuery start stop)).answering .grid 0x98 [2, 10])
    else if stop ≤ now then exec (.offerQuery start stop) s = .next ((s.asked (.offerQuery start stop)).answering .grid 0x98 [2, 9])
    else
      let candidates := Dock.all.filter fun d => decide ((s.dock d).state = .bound) && decide ((s.dock d).steering = .allocator) &&
        (s.rpt.plans.any fun p => decide (some p.vehicle = (s.dock d).vehicle ∧ p.state ≠ .departed ∧ p.hold = .none ∧ p.pendingHold = false))
      s.PlansOk →
      exec (.offerQuery start stop) s = .next ((s.asked (.offerQuery start stop)).answering .grid 0x98 ([0, 0] ++ le16 (headroomTerm s a stop) ++
        le16 (energyTerm s a stop) ++
        [BitVec.ofNat 8 candidates.length] ++ le16 (min (headroomTerm s a stop) (energyTerm s a stop)))) ∧
      headroomTerm s a stop ≤ headroomAt a ∧
      (a < i * 1800 → i * 1800 < stop → headroomTerm s a stop ≤ headroomAt (i * 1800)) ∧
      (headroomTerm s a stop = headroomAt a ∨
        ∃ j : Nat, a < j * 1800 ∧ j * 1800 < stop ∧ headroomTerm s a stop = headroomAt (j * 1800)) ∧
      energyTerm s a stop = (candidates.map fun d =>
        min (s.dock d).ratedExport (((s.dock d).stored - floorOf s d ((s.dock d).vehicle.getD 0) stop) * 3600 / (stop - a))).sum)

/-! ### Fleet Link requests (R23 to R39, R113, R114, R175) -/

/-- R31, R32: the checks of PLAN LOAD in order; else the entry of the vehicle is new, or replaced with its holds kept, WAITING, or at once DUE
when the clock runs and its point is reached; energy is clamped to 4000; the other entries stay. DESIGN CHOICE: how a request row stands in the
holding is log 9. -/
def Obligations.PlanLoadEntersOrReplacesThePlan : Prop :=
  ∀ (v departure energy : Nat) (afterEvent shortHoldOff : Bool) (s : State),
    s.PlansOk →
      let old := s.rpt.plans.find? fun p => decide (p.vehicle = v)
      let load := exec (.planLoad v departure energy afterEvent shortHoldOff) s
      let k := s.asked (.planLoad v departure energy afterEvent shortHoldOff)
      if v = 0 ∨ v = 65535 then load = .next (k.answering .fleet 0xB0 [2, 12])
      else if 4000000000 < departure then load = .next (k.answering .fleet 0xB0 [2, 4])
      else if old = none ∧ 64 ≤ s.rpt.plans.length then load = .next (k.answering .fleet 0xB0 [2, 11])
      else
        let p : Plan := {
          vehicle := v, departure := departure, energy := min energy 4000
          state := if s.dck.running = true ∧ departure - s.rpt.readyLead ≤ s.dck.depotTime then .due else .waiting
          hold := match old with | some q => q.hold | none => .none
          source := match old with | some q => q.source | none => none
          pendingHold := match old with | some q => q.pendingHold | none => false
          afterEvent := afterEvent, shortHoldOff := shortHoldOff }
        load = .next (State.answering
          { k with rpt := { s.rpt with plans :=
            (s.rpt.plans.filter fun q => decide (q.vehicle < v)) ++ p :: s.rpt.plans.filter fun q => decide (v < q.vehicle) } }
          .fleet 0xB0 ([if 4000 < energy then 1 else 0, 0] ++ planEntry p))

/-- R35, R37, R38, R39: PLAN DELETE removes the entry; HOLD CLEAR returns it to NONE; HOLD SET LOCKOUT takes effect at once with a pass; HOLD SET
HOLD is made pending while the vehicle exports in an ACTIVE event, and is HOLD (MANUAL) at once otherwise. A vehicle with no entry is refused.
DESIGN CHOICE: an entry at HOLD (AUTO) or LOCKOUT with its share left is made pending too (log 44), and LOCKOUT clears a pending hold of an entry
at LOCKOUT too (log 45). DESIGN CHOICE: how a request row stands in the holding is log 9. -/
def Obligations.PlanDeleteAndHoldRequestsActOnTheEntry : Prop :=
  ∀ (v : Nat) (s : State),
    (v ∉ s.rpt.plans.map Plan.vehicle →
      exec (.planDelete v) s = .next ((s.asked (.planDelete v)).answering .fleet 0xB1 [2, 12]) ∧ exec (.holdSetLockout v) s =
        .next ((s.asked (.holdSetLockout v)).answering .fleet 0xB3 [2, 12]) ∧
      exec (.holdSetHold v) s = .next ((s.asked (.holdSetHold v)).answering .fleet 0xB3 [2, 12]) ∧ exec (.holdClear v) s =
        .next ((s.asked (.holdClear v)).answering .fleet 0xB4 [2, 12])) ∧
    (s.PlansOk → ∀ p ∈ s.rpt.plans, p.vehicle = v →
      let put : Instr → Plan → State := fun c p' =>
        { s.asked c with rpt := { s.rpt with plans := s.rpt.plans.map fun q => if q.vehicle = v then p' else q } }
      let exporting := (s.evq.any fun r => decide (r.state = .active)) && Dock.all.any fun d => decide ((s.dock d).vehicle = some v ∧
        0 < (s.dock d).share)
      exec (.planDelete v) s = .next (State.answering
        { s.asked (.planDelete v) with rpt := { s.rpt with plans := s.rpt.plans.filter fun q => decide (q.vehicle ≠ v) } } .fleet 0xB1 [0, 0]) ∧
      exec (.holdClear v) s = .next ((put (.holdClear v) { p with hold := .none, source := none, pendingHold := false }).answering .fleet 0xB4 [0,
        0]) ∧
      exec (.holdSetLockout v) s = .next ((runPass (put (.holdSetLockout v) { p with
        hold := .lockout, source := none, pendingHold := false })).answering .fleet 0xB3
        [0, 0, 2, 255, 0]) ∧
      exec (.holdSetHold v) s = .next
        (if exporting then
          (put (.holdSetHold v) { p with pendingHold := true }).answering .fleet 0xB3 [0, 0, p.hold.code, holdSourceCode p.source, 1]
        else (put (.holdSetHold v) { p with hold := .hold, source := some .manual, pendingHold := false }).answering .fleet 0xB3 [0, 0, 1, 0, 0]))

/-- R113, R114: a ROTATION SET of more than 16 entries, or with an entry from 4 to 254, is refused; else it replaces list, YIELD and cursor at
once, or, while an event is ACTIVE, is stored whole as the pending setting. DESIGN CHOICE: how a request row stands in the holding is log 9. -/
def Obligations.RotationSetIsTakenOrPending : Prop :=
  ∀ (yieldOn : Bool) (entries : List Nat) (s : State),
    let list : List RestEntry := entries.map fun v => if h : v < 4 then some ⟨v, h⟩ else none
    if 16 < entries.length ∨ (∃ v ∈ entries, 4 ≤ v ∧ v ≠ 255) then
      exec (.rotationSet yieldOn entries) s = .next ((s.asked (.rotationSet yieldOn entries)).answering .fleet 0xB7 [2, 3])
    else if (s.evq.any fun r => decide (r.state = .active)) = true then
      exec (.rotationSet yieldOn entries) s = .next (State.answering
        { s.asked (.rotationSet yieldOn entries) with rot := { s.rot with
          pendingSetting := some { list := list, yieldOn := yieldOn } } } .fleet 0xB7 [0, 0, 1])
    else
      exec (.rotationSet yieldOn entries) s = .next (State.answering
        { s.asked (.rotationSet yieldOn entries) with rot := { s.rot with list := list, yieldOn := yieldOn, cursor := 0 } } .fleet 0xB7 [0, 0, 0])

/-- R23, R24, R25, R18: DOCK ENABLE takes a DISABLED record to ABSENT. DOCK DISABLE takes any other record to DISABLED, releasing its vehicle and
clearing what it held. DOCK CLEAR removes a NOT-FOLLOWING or POWER-MISMATCH cause, and the record leaves FAULTED, or stays SILENT. DESIGN CHOICE:
how a request row stands in the holding is log 9. -/
def Obligations.EnableDisableAndClearMoveTheRecord : Prop :=
  ∀ (a : Nat) (d : Dock) (s : State),
    (a = 0 ∨ 40 < a →
      exec (.dockEnable a) s = .next ((s.asked (.dockEnable a)).answering .fleet 0xBB [2, 13]) ∧ exec (.dockDisable a) s =
        .next ((s.asked (.dockDisable a)).answering .fleet 0xBC [2, 13]) ∧
      exec (.dockClear a) s = .next ((s.asked (.dockClear a)).answering .fleet 0xBD [2, 13])) ∧
    (let r := s.dock d
     let cleared : DockRecord := { r with cleanCount := 0, phaseMismatch := 0, powerMismatch := 0 }
     (exec (.dockEnable d.addr) s = .next
      (if r.state = .disabled then ((s.asked (.dockEnable d.addr)).setDock d { cleared with state := .absent }).answering .fleet 0xBB [0, 0]
      else (s.asked (.dockEnable d.addr)).answering .fleet 0xBB [2, 14])) ∧
     (r.state = .disabled → exec (.dockDisable d.addr) s = .next ((s.asked (.dockDisable d.addr)).answering .fleet 0xBC [0, 0])) ∧
     (r.state ≠ .disabled → s.DocksOk →
      ∃ t, exec (.dockDisable d.addr) s = .next t ∧
        t.dock d = { cleared with
          state := .disabled, vehicle := none, prior := .vacant, silentSince := none, stored := 0, capacity := 0, ratedExport := 0
          ratedIntake := 0, measured := 0, steering := .allocator, manual := none, cause := none, missedAck := 0 } ∧
        t.fleet.lastAnswer = some { kind := 0xBC, body := [0, 0] } ∧
        t.rpt = { s.rpt with plans := match r.vehicle with | some u => departed u s.rpt.plans | none => s.rpt.plans } ∧
        (∀ e : Dock, e ≠ d → (t.dock e).vehicle = (if r.vehicle.isSome = true ∧ r.vehicle.bind (fun u => firstWaiting u s) = some e then r.vehicle
          else (s.dock e).vehicle)) ∧
        (s.dnc.echo.state = .running → s.dnc.echo.dock = d.addr → t.dnc.echo.state = .aborted) ∧
        (s.dnc.echo.state ≠ .running ∨ s.dnc.echo.dock ≠ d.addr → t.dnc = s.dnc) ∧
        t.dnc.queuedSetpoints = s.dnc.queuedSetpoints ∧
        t.evq = s.evq ∧ t.alc = s.alc ∧ t.rot = s.rot ∧ t.slu = s.slu ∧ t.tly = s.tly ∧ t.dck = s.dck ∧ t.grid = s.grid) ∧
     (r.cause = some .notFollowing ∨ r.cause = some .powerMismatch →
      (r.state = .faulted →
        exec (.dockClear d.addr) s = .next (State.answering
          { ((s.asked (.dockClear d.addr)).setDock d { cleared with cause := none, state := if r.vehicle.isSome then .bound else .vacant }) with
            fleet := (s.asked (.dockClear d.addr)).fleet.raise (.dock d (if r.vehicle.isSome then .bound else .released) (if r.vehicle.isSome
              then .bound else .vacant)
              (r.vehicle.getD 0) none) } .fleet 0xBD [0, 0])) ∧
      (r.state = .silent → exec (.dockClear d.addr) s =
        .next (((s.asked (.dockClear d.addr)).setDock d { r with cause := none }).answering .fleet 0xBD [0, 0]))) ∧
     ((r.state ≠ .faulted ∧ r.state ≠ .silent) ∨ (r.cause ≠ some .notFollowing ∧ r.cause ≠ some .powerMismatch) →
      exec (.dockClear d.addr) s = .next ((s.asked (.dockClear d.addr)).answering .fleet 0xBD [2, 14])))

/-! ### Queries (R29, R154, R177, R186, R191 to R194) -/

/-- R192, R193, R177, R154, R186: the queries of plans, parameters, echo test and clock change nothing but the answer; LINK QUERY reports and
then clears its port's three counts. DESIGN CHOICE (log 9): a query counts itself among the requests held, as it stands in the holding while it
is taken. -/
def Obligations.SmallQueriesReportAndChangeNothing : Prop :=
  ∀ (v id : Nat) (l : Link) (s : State),
    (exec (.planQueryOne v) s = .next ((s.asked (.planQueryOne v)).answering .fleet 0xB2
      (match s.rpt.plans.find? fun p => decide (p.vehicle = v) with | some p => [0, 0] ++ planEntry p | none => [2, 12]))) ∧
    (let rest := s.rpt.plans.filter fun p => decide (v ≤ p.vehicle)
     exec (.planQueryPage v) s = .next ((s.asked (.planQueryPage v)).answering .fleet 0xB2
      ([0, 0, BitVec.ofNat 8 (min 17 rest.length), flagByte (decide (17 < rest.length))] ++ ((rest.take 17).map planEntry).flatten))) ∧
    (let values : List Nat := [s.rpt.margin, s.rpt.keep, s.rpt.planningIntake, s.rpt.planningEfficiency, s.rpt.readyLead, s.rpt.shortBand,
      s.slu.intakeCeiling, s.slu.rampRate, s.rot.intervalA, s.rot.intervalB, s.tly.meterWeight]
     exec (.parameterQuery id) s = .next ((s.asked (.parameterQuery id)).answering .fleet 0xB6
      (if id = 0 then [0, 0] ++ (values.map le16).flatten else if id ≤ 11 then [0, 0] ++ le16 (values.getD (id - 1) 0) else [2, 3]))) ∧
    (let e := s.dnc.echo
     exec .echoQuery s = .next ((s.asked .echoQuery).answering .fleet 0xC0 [0, 0, e.state.code, BitVec.ofNat 8 e.dock, BitVec.ofNat 8 e.count,
      BitVec.ofNat 8 e.sequence, BitVec.ofNat 8 e.matched, BitVec.ofNat 8 e.mismatched, BitVec.ofNat 8 e.missed])) ∧
    (let k := s.dck
     exec (.clockQuery l) s = .next ((s.asked (.clockQuery l)).answering l 0xE2 ([0, 0, flagByte k.running] ++ le32 k.depotTime ++
       le16 k.depotDivider ++ le32 k.uptime ++
      le16 k.uptimeDivider ++ [(match k.lastChange with | .none => 0 | .set => 1 | .trim => 2 : Byte)] ++ le32 k.lastChangeUptime ++
      le32 (k.depotTime % 86400) ++ le16 (k.depotTime / 86400) ++ [BitVec.ofNat 8 (k.depotTime % 86400 / 1800)]))) ∧
    (let p := s.port l
     exec (.linkQuery l) s = .next (State.answering ((s.asked (.linkQuery l)).mapPort l fun p => { p with
       badFrames := 0, overruns := 0, droppedNotices := 0 }) l 0xE3
      [0, 0, (match p.lock with | .hunt => 0 | .locked => 1 | .quiet => 2 : Byte), BitVec.ofNat 8 p.badFrames, BitVec.ofNat 8 p.overruns,
        BitVec.ofNat 8 p.droppedNotices, BitVec.ofNat 8 p.notices.length, BitVec.ofNat 8 (max 1 p.holding.length)]))

/-- R194, R188, R1, R51, R77, R104, R117, R122, R135, R140, R142, R162: the answers of QUEUE QUERY in both parts, of SITE QUERY and of DOCK
QUERY, field by field, and the lengths the layouts give; they change nothing but the answer. DESIGN CHOICE: log 9. -/
def Obligations.TableQueriesReportAndChangeNothing : Prop :=
  ∀ (l : Link) (first a : Nat) (d : Dock) (s : State),
    let byte : Nat → Byte := fun v => BitVec.ofNat 8 v
    let s16 : Int → List Byte := fun v => le16 (v % 65536).toNat
    let s32 : Int → List Byte := fun v => le32 (v % 4294967296).toNat
    let optional : Option Nat → List Byte := fun o => flagByte o.isSome :: le32 (o.getD 0)
    let group : RestEntry → Byte := fun g => match g with | some g => byte g.val | none => 255
    let cause : EndCause → Byte := fun c => match c with | .complete => 0 | .cancelled => 1 | .expired => 2
    let dockState : DockState → Byte := fun x =>
      match x with | .disabled => 0 | .absent => 1 | .vacant => 2 | .bound => 3 | .silent => 4 | .faulted => 5
    let tally : List Byte := match s.tly.tally with
      | none => [0]
      | some y => 1 :: le16 y.eventId ++ s32 y.meterNet ++ le32 y.dockExport ++ le32 y.dockIntake ++
        [byte y.participants.length, byte y.intervalsTotal, byte y.intervalsMet, flagByte y.worst.isSome, byte (y.worst.getD 0),
          byte y.divergent] ++ le16 y.peakShortfall ++ le16 y.tripSeconds ++ le32 y.interval.start ++ le16 y.interval.committed ++
        s32 y.interval.meterNet ++ le32 y.interval.dockExport ++ le32 y.interval.dockIntake
    let queue : List Byte := [0, 0, byte s.evq.length] ++
      (s.evq.map queueRecord).flatten ++
      tally ++
      [byte s.tly.results.length] ++ (s.tly.results.map fun x => le16 x.eventId ++ [cause x.cause, flagByte x.read]).flatten ++
      [byte s.tly.resultsLost]
    let everyone := match s.tly.tally with | some y => y.participants | none => []
    let page := (everyone.drop first).take 40
    let participants : List Byte := [0, 0, byte everyone.length, byte first, byte page.length] ++ (page.map fun e => le16 e.1 ++ le32 e.2).flatten
    let setting : List Byte := match s.rot.pendingSetting with
      | none => [0, 0, 0]
      | some q => [1, byte q.list.length, flagByte q.yieldOn] ++ q.list.map group
    let restState : List Byte := match s.rot.state with | .off => [0, 255] | .work => [1, 255] | .rest g => [2, group g]
    let limit : List Byte := match s.slu.limit with | none => [0, 0, 0, 0, 0, 0, 0] | some o => 1 :: le16 o.value ++ le32 o.expiry
    let trip : Byte := match s.slu.trip with | .normal => 0 | .tripped => 1 | .holdoff => 2
    let net : Byte := match s.dnc.net with | .active => 0 | .passive => 1 | .off => 2
    let site : List Byte := ([0, 0] : List Byte) ++ s16 s.alc.previousNet ++ le16 s.alc.previousIntake ++ le32 s.alc.previousPass ++
      le16 s.alc.lastShortfall ++ [flagByte s.alc.lastYield] ++ le32 ((s.alc.previousPass + 2) % 4294967296) ++
      [byte s.rot.list.length] ++ s.rot.list.map group ++ [flagByte s.rot.yieldOn] ++
      setting ++ [byte s.rot.cursor] ++ restState ++
      optional s.rot.aTimer ++ optional s.rot.bTimer ++ le16 s.rot.yieldCount ++
      ((List.finRange 48).map fun i => le16 s.slu.table[i]).flatten ++ [flagByte s.slu.tableValid, flagByte s.slu.daily] ++
      limit ++
      le16 s.slu.intakeCeiling ++ le16 s.slu.rampRate ++ le16 s.slu.holdoff ++
      [flagByte s.slu.lineAsserted, trip] ++ optional s.slu.holdoffTimer ++
      le16 s.slu.tripCount ++ le32 s.slu.tripSeconds ++ [flagByte s.slu.experm] ++ le16 (headroomNow s) ++
      le32 s.tly.siteExport ++ le32 s.tly.siteImport ++ le16 s.tly.meterWeight ++
      [net] ++ le16 s.dnc.tec ++ [byte s.dnc.recCount, byte s.dnc.foreign,
        byte ((if s.dnc.queuedCease then 1 else 0) + s.dnc.queuedSetpoints.length + (if s.dnc.queuedEcho.isSome then 1 else 0))]
    let r := s.dock d
    let fault : List Byte := match r.cause with
      | some (.dock k) => 0 :: le16 k
      | some .notFollowing => [1, 0, 0]
      | some .powerMismatch => [2, 0, 0]
      | some (.duplicateVehicle v) => 3 :: le16 v
      | none => [255, 0, 0]
    let record : List Byte := [0, 0, dockState r.state] ++ le16 (r.vehicle.getD 0) ++ [if r.prior = .bound then 1 else 0] ++
      optional r.silentSince ++ le16 r.stored ++ le16 r.capacity ++ le16 r.ratedExport ++ le16 r.ratedIntake ++ s16 r.measured ++
      s16 r.setpoint ++ le16 r.share ++ le16 r.floor ++ [if r.steering = .manual then 1 else 0, flagByte r.manual.isSome] ++
      s16 (r.manual.getD 0) ++ [byte r.group.val] ++
      fault ++
      [byte r.cleanCount, flagByte r.phaseAcked, byte r.phaseMismatch, byte r.powerMismatch, byte r.missedAck] ++ le32 r.lastReport ++
      le32 r.exportBase ++ le32 r.intakeBase ++ le32 r.dayThroughput ++ le16 r.restartCount ++ le16 r.jumpCount ++ [flagByte (s.dnc.phaseOf d)]
    let summary : List Byte := [0, 0] ++ (Dock.all.map fun e => [dockState (s.dock e).state] ++ le16 ((s.dock e).vehicle.getD 0) ++
      s16 (s.dock e).setpoint ++ [byte (s.dock e).group.val]).flatten
    exec (.queueQuery l) s = .next ((s.asked (.queueQuery l)).answering l 0xE0 queue) ∧
    (s.EventsOk → queue.length ≤ 248) ∧
    exec (.queueQueryParticipants l first) s = .next ((s.asked (.queueQueryParticipants l first)).answering l 0xE0 participants) ∧
    participants.length ≤ 245 ∧
    exec (.siteQuery l) s = .next ((s.asked (.siteQuery l)).answering l 0xE1 site) ∧
    site.length = 180 + s.rot.list.length + ((s.rot.pendingSetting.map fun q => q.list.length).getD 0) ∧
    exec (.dockQuerySummary l) s = .next ((s.asked (.dockQuerySummary l)).answering l 0xE4 summary) ∧ summary.length = 242 ∧
    (40 < a → exec (.dockQuery l a) s = .next ((s.asked (.dockQuery l a)).answering l 0xE4 [2, 13])) ∧
    exec (.dockQuery l d.addr) s = .next ((s.asked (.dockQuery l d.addr)).answering l 0xE4 record) ∧ record.length = 61
end

