-- ==== Sys2Proof/Tests/Slice0.lean ====
section
/-! SUPPORT. Tests: ill-formed commands refused, small checks of single steps against the manual's worked figures, and for each
statement with hypotheses a concrete state and operands that meet them. -/

namespace Sys2Proof.Tests

open Sys2Proof Sys2Proof.Machine

set_option Elab.async false

/-! ### Helpers -/

/-- The state a command leaves; the same state where it stops. -/
def after (i : Instr) (s : State) : State :=
  match exec i s with
  | .next t => t
  | _ => s

/-- A check of one record that implies its consistency. -/
def recordCheck (r : DockRecord) : Bool :=
  decide ((r.vehicle.isSome = true → r.state = .bound ∨ r.state = .silent ∨ r.state = .faulted) ∧
    (r.state = .bound → r.vehicle.isSome = true) ∧ (r.silentSince.isSome = true ↔ r.state = .silent) ∧
    (r.state = .silent → (r.prior = .bound ↔ r.vehicle.isSome = true)) ∧ (r.manual.isSome = true ↔ r.steering = .manual) ∧
    (r.steering = .manual → r.vehicle.isSome = true) ∧ (∀ v ∈ r.manual, -(r.ratedIntake : Int) ≤ v ∧ v ≤ r.ratedExport) ∧
    (r.cause.isSome = true → r.state = .silent ∨ r.state = .faulted) ∧ (r.state = .faulted → r.cause.isSome = true)) &&
  (match r.cause with
    | some (.duplicateVehicle _) => r.vehicle.isNone
    | _ => true)

/-- A check of the Dock Table that implies its soundness. -/
def docksCheck (s : State) : Bool :=
  Dock.all.all (fun d => recordCheck (s.dock d)) &&
    decide ((Dock.all.filterMap fun d => (s.dock d).vehicle).Nodup)

theorem record_of_check {r : DockRecord} (h : recordCheck r = true) : r.Consistent := by
  unfold recordCheck at h
  rw [Bool.and_eq_true] at h
  obtain ⟨h, hd⟩ := h
  obtain ⟨h1, h2, h3, h4, h5, h6, h7, h8, h9⟩ := of_decide_eq_true h
  refine ⟨h1, h2, h3, h4, h5, h6, h7, h8, h9, fun v hv => ?_⟩
  rw [hv] at hd
  simpa using hd

/-- In a list without repeats of optional figures, two members with one figure are the same. -/
theorem eq_of_filterMap_nodup {α β : Type} {f : α → Option β} {a b : α} {x : β} (ha : f a = some x) (hb : f b = some x) :
    ∀ {l : List α}, (l.filterMap f).Nodup → a ∈ l → b ∈ l → a = b
  | [], _, h, _ => absurd h (List.not_mem_nil)
  | c :: l, hn, h1, h2 => by
    cases hc : f c with
    | none =>
      rw [List.filterMap_cons_none hc] at hn
      refine eq_of_filterMap_nodup ha hb hn ?_ ?_
      · rcases List.mem_cons.1 h1 with rfl | h
        · rw [ha] at hc; cases hc
        · exact h
      · rcases List.mem_cons.1 h2 with rfl | h
        · rw [hb] at hc; cases hc
        · exact h
    | some y =>
      rw [List.filterMap_cons_some hc, List.nodup_cons] at hn
      have key : ∀ {z : α}, f z = some x → z ∈ l → f c ≠ some x := fun {z} hz hm hcx => by
        rw [hc] at hcx; cases hcx
        exact hn.1 (List.mem_filterMap.2 ⟨z, hm, hz⟩)
      rcases List.mem_cons.1 h1 with rfl | k1 <;> rcases List.mem_cons.1 h2 with rfl | k2
      · rfl
      · exact absurd ha (key hb k2)
      · exact absurd hb (key ha k1)
      · exact eq_of_filterMap_nodup ha hb hn.2 k1 k2

theorem docks_of_check {s : State} (h : docksCheck s = true) : s.DocksOk := by
  unfold docksCheck at h
  rw [Bool.and_eq_true, List.all_eq_true] at h
  refine ⟨fun d => record_of_check (h.1 d (List.mem_finRange d)), fun d e hd he => ?_⟩
  obtain ⟨x, hx⟩ := Option.isSome_iff_exists.1 hd
  exact eq_of_filterMap_nodup hx (he ▸ hx) (of_decide_eq_true h.2) (List.mem_finRange d) (List.mem_finRange e)

/-- A check of the Route Plan Table that implies its soundness. -/
def plansCheck (s : State) : Bool :=
  decide (s.rpt.plans.length ≤ 64 ∧ s.rpt.plans.Pairwise (fun p q => p.vehicle < q.vehicle) ∧
    ∀ p ∈ s.rpt.plans, (1 ≤ p.vehicle ∧ p.vehicle ≤ 65534) ∧ p.departure ≤ depotTimeMax ∧ p.energy ≤ 4000 ∧
      (p.source.isSome = true ↔ p.hold = .hold))

theorem plans_of_check {s : State} (h : plansCheck s = true) : s.PlansOk := by
  obtain ⟨h1, h2, h3⟩ := of_decide_eq_true h
  exact ⟨h1, h2, fun p hp => ⟨(h3 p hp).1, (h3 p hp).2.1, (h3 p hp).2.2.1, (h3 p hp).2.2.2⟩⟩

/-- A check of the Event Queue and the Results List that implies their soundness. -/
def eventsCheck (s : State) : Bool :=
  decide (s.evq.length ≤ 8 ∧ s.evq.Pairwise (fun a b => a.start < b.start ∧ a.stop ≤ b.start) ∧
    (∀ r ∈ s.evq.tail, r.state = .pending) ∧ (s.tly.tally.isSome = true ↔ (activeRecord s.evq).isSome = true) ∧
    (∀ r ∈ s.evq, 10 ≤ r.committed ∧ (r.committed ≤ r.committedInitial ∧ r.committedInitial ≤ r.target) ∧
      r.start + 300 ≤ r.stop ∧ (r.actualStart.isSome = true ↔ r.state = .active) ∧ ∀ a ∈ r.actualStart, r.start ≤ a) ∧
    s.tly.results.length ≤ 6 ∧ s.eventIds.Nodup)

theorem events_of_check {s : State} (h : eventsCheck s = true) : s.EventsOk := by
  obtain ⟨h1, h2, h3, h4, h5, h6, h7⟩ := of_decide_eq_true h
  exact ⟨h1, h2, h3, h4, fun r hr => ⟨(h5 r hr).1, (h5 r hr).2.1, (h5 r hr).2.2.1, (h5 r hr).2.2.2.1, (h5 r hr).2.2.2.2⟩, h6, h7⟩

/-- A check of the Dock Net Controller that implies its soundness. -/
def netCheck (s : State) : Bool :=
  decide ((s.dnc.net = .active → s.dnc.tec < 128 ∧ s.dnc.recCount < 128) ∧
    (s.dnc.net = .passive → (128 ≤ s.dnc.tec ∨ 128 ≤ s.dnc.recCount) ∧ s.dnc.tec ≤ 255) ∧
    (s.dnc.net = .off → 255 < s.dnc.tec ∧ s.dnc.tec ≤ 263) ∧ s.dnc.recCount ≤ 255 ∧ s.dnc.foreign ≤ 255 ∧
    s.dnc.queuedSetpoints.Pairwise (fun f g => f.dock ≠ g.dock) ∧
    (s.dnc.net = .off → s.dnc.framesQueued = 0 ∧ s.dnc.sending = none) ∧
    (s.dnc.echo.state = .running → s.dnc.net = .active) ∧ (s.dnc.echo.wait.isSome = true → s.dnc.echo.state = .running) ∧
    (s.dnc.queuedEcho.isSome = true → s.dnc.echo.state = .running ∧ s.dnc.echo.wait = none) ∧
    ∀ x ∈ s.dnc.sending, x.withdrawn = false →
      (match x.frame with | .echo _ => true | .cease => false | .setpoint _ => false) = true →
      s.dnc.echo.state = .running ∧ s.dnc.echo.wait = none ∧ s.dnc.queuedEcho = none)

theorem net_of_check {s : State} (h : netCheck s = true) : s.NetOk := by
  obtain ⟨h1, h2, h3, h4, h5, h6, h7, h8, h9, h10, h11⟩ := of_decide_eq_true h
  exact ⟨h1, h2, h3, h4, h5, h6, h7, h8, h9, h10, h11⟩

/-- A check of one port that implies its soundness. -/
def portCheck (p : Port) : Bool :=
  decide ((p.badRun ≤ 3 ∧ (p.lock = .hunt → p.badRun = 0)) ∧ (p.quietTimer.isSome = true ↔ p.lock = .locked) ∧
    (p.badFrames ≤ 255 ∧ p.overruns ≤ 255 ∧ p.droppedNotices ≤ 255) ∧ p.holding.length ≤ 2 ∧ p.notices.length ≤ 8 ∧
    (p.lock = .quiet → p.notices = []) ∧ (∀ h ∈ p.holding.head?, h.answer.isSome = true) ∧
    (p.sending = none → p.holding = [] ∧ (p.lock = .locked → p.notices = [])))

theorem port_of_check {p : Port} (h : portCheck p = true) : p.Consistent := by
  obtain ⟨h1, h2, h3, h4, h5, h6, h7, h8⟩ := of_decide_eq_true h
  exact ⟨h1, h2, h3, h4, h5, h6, h7, h8⟩

/-- A record of a dock BOUND to a vehicle, rated 600 both ways. -/
def boundTo (v : Nat) (d : Dock) : DockRecord :=
  { DockRecord.reset d with
    state := .bound, vehicle := some v, capacity := 3000, stored := 2500, ratedExport := 600, ratedIntake := 600, lastReport := 100 }

/-- A day: the clock runs at 61000, the table is valid at 1500 all day, the trip state is NORMAL, both ports are LOCKED. -/
def day : State :=
  { State.reset with
    dck := { Dck.reset with running := true, depotTime := 61000, uptime := 100 }
    slu := { Slu.reset false with table := Vector.replicate 48 1500, tableValid := true, daily := true, trip := .normal
                                  holdoffTimer := none, experm := true }
    alc := { Alc.reset with previousPass := 98 }
    grid := { Port.reset with lock := .locked, quietTimer := some 120 }
    fleet := { Port.reset with lock := .locked, quietTimer := some 120 } }

/-- The day with vehicle 7 at dock 1, SILENT holding 8 at dock 2, dock 3 waiting for 7, docks 4 to 9 VACANT, DISABLED, FAULTED with DOCK(3),
FAULTED with NOT-FOLLOWING, SILENT with POWER-MISMATCH and BOUND to 9 under MANUAL, and the rest ABSENT. -/
def fleetDay : State :=
  ((((((((day.setDock 0 (boundTo 7 0)).setDock 1 { boundTo 8 1 with state := .silent, prior := .bound, silentSince := some 40 }).setDock 2
    { DockRecord.reset 2 with state := .faulted, cause := some (.duplicateVehicle 7), lastReport := 97 }).setDock 3
    { DockRecord.reset 3 with state := .vacant, lastReport := 99 }).setDock 4 { DockRecord.reset 4 with state := .disabled }).setDock 5
    { boundTo 10 5 with state := .faulted, cause := some (.dock 3), cleanCount := 2 }).setDock 6
    { DockRecord.reset 6 with state := .faulted, cause := some .notFollowing }).setDock 7
    { DockRecord.reset 7 with state := .silent, cause := some .powerMismatch, silentSince := some 90 }).setDock 8
    { boundTo 9 8 with steering := .manual, manual := some (-600) }

theorem test_fleetDay_docks : fleetDay.DocksOk := docks_of_check (by decide)
theorem test_fleetDay_net : fleetDay.NetOk := net_of_check (by decide)
theorem test_fleetDay_plans : fleetDay.PlansOk := plans_of_check (by decide)
theorem test_fleetDay_events : fleetDay.EventsOk := events_of_check (by decide)
theorem test_fleetDay_ports : fleetDay.PortsOk := ⟨port_of_check (by decide), port_of_check (by decide)⟩

/-- The day with an event: record 11 is ACTIVE in [60900, 64500) with committed power 1200, record 12 is PENDING, the tally is open, one result
is held, and the rotation works through the list of group 1 and NONE. -/
def eventDay : State :=
  { fleetDay with
    evq := [
      { id := 11, start := 60900, stop := 64500, target := 1500, committedInitial := 1300, committed := 1200, state := .active
        actualStart := some 60900 },
      { id := 12, start := 70000, stop := 70300, target := 10, committedInitial := 10, committed := 10, state := .pending, actualStart := none }]
    rot := { Rot.reset with list := [some 1, none], state := .work, aTimer := some 100, cursor := 1 }
    rpt := { Rpt.reset with plans := [
      { vehicle := 7, departure := 90000, energy := 900, state := .due, hold := .none, source := none, pendingHold := true
        afterEvent := false, shortHoldOff := false },
      { vehicle := 9, departure := 61900, energy := 0, state := .waiting, hold := .hold, source := some .auto, pendingHold := false
        afterEvent := true, shortHoldOff := false }] }
    tly := { Tly.reset with
      tally := some {
        eventId := 11, meterNet := 8600, dockExport := 8750, dockIntake := 0, participants := [(7, 8750)], intervalsTotal := 0, intervalsMet := 0
        worst := none, divergent := 0, peakShortfall := 0, tripSeconds := 0
        interval := { start := 60700, committed := 1000, meterNet := 8600, dockExport := 8750, dockIntake := 0 } }
      results := [
        { eventId := 5, start := 100, stop := 400, actualStart := some 100, actualEnd := 400, cause := .complete, committedInitial := 10
          committedFinal := 10, meterNet := 0, dockExport := 0, dockIntake := 0, intervalsTotal := 1, intervalsMet := 0, worst := 0, divergent := 0
          peakShortfall := 10, tripSeconds := 0, yields := 0, read := false, participants := [] }] } }

theorem test_eventDay_docks : eventDay.DocksOk := docks_of_check (by decide +kernel)
theorem test_eventDay_net : eventDay.NetOk := net_of_check (by decide +kernel)
theorem test_eventDay_plans : eventDay.PlansOk := plans_of_check (by decide +kernel)
theorem test_eventDay_ports : eventDay.PortsOk := ⟨port_of_check (by decide +kernel), port_of_check (by decide +kernel)⟩
theorem test_eventDay_events : eventDay.EventsOk := events_of_check (by decide +kernel)

/-! ### Ill-formed commands are refused by the check -/

theorem test_ill_formed_net_and_docks :
    ([.status 64 false [], .status 1 false (List.replicate 25 0), .echoReply 64 true [], .echoReply 1 false (List.replicate 25 0),
      .reportTimeout 0, .reportTimeout 41, .silentGraceExpiry 0, .silentGraceExpiry 41, .planDue 0, .planDue 65535,
      .goodFrame .grid 0x10 (List.replicate 250 0), .unknownKindRequest .fleet 0x30, .groupSet 256 0, .groupSet 1 256,
      .dockManual 256 0, .dockManual 1 32768, .dockManual 1 (-32769), .dockAuto 256, .dockEnable 256, .dockDisable 256, .dockClear 256,
      .echoTest 256 1, .echoTest 1 256, .queueQueryParticipants .grid 256, .dockQuery .grid 0, .dockQuery .fleet 256] : List Instr).all
      (fun c => !c.wellFormed) = true := by decide +kernel

theorem test_ill_formed_requests :
    ([.timeSet 4294967296, .timeTrim 32768, .timeTrim (-32769), .headroomLoad 256 true [1], .headroomLoad 0 true [65536],
      .headroomLoad 0 true (List.replicate 124 0), .headroomOverride 65536 0, .headroomOverride 0 4294967296, .tripHoldoffSet 65536,
      .dispatchCall 65536 0 0 0 0, .dispatchCall 0 4294967296 0 0 0, .dispatchCall 0 0 4294967296 0 0, .dispatchCall 0 0 0 65536 0,
      .dispatchCall 0 0 0 0 65536, .dispatchRevise 65536 0 0, .dispatchRevise 0 65536 0, .dispatchRevise 0 0 4294967296, .dispatchCancel 65536,
      .offerQuery 4294967296 0, .offerQuery 0 4294967296, .resultQuery 65536 0, .resultQuery 0 256, .planLoad 65536 0 0 true true,
      .planLoad 0 4294967296 0 true true, .planLoad 0 0 65536 true true, .planDelete 65536, .planQueryOne 65536, .planQueryPage 65536,
      .holdSetLockout 65536, .holdSetHold 65536, .holdClear 65536, .parameterSet 256 0, .parameterSet 0 65536, .parameterQuery 256,
      .rotationSet true [256], .rotationSet true (List.replicate 248 0)] : List Instr).all (fun c => !c.wellFormed) = true := by decide +kernel

theorem test_well_formed_at_the_ends :
    ([.status 63 true (List.replicate 24 0), .reportTimeout 40, .planDue 65534, .goodFrame .fleet 0x60 (List.replicate 249 0),
      .timeTrim (-32768), .timeSet 4294967295, .dockManual 255 32767, .headroomLoad 255 false (List.replicate 123 65535)] : List Instr).all
      Instr.wellFormed = true := by decide +kernel

/-! ### The manual's worked figures -/

/-- Spec 4.10: the water-fill over six docks, and the next pass over five. -/
theorem test_waterFill_example :
    waterFill [⟨2, 400, 0⟩, ⟨6, 600, 450⟩, ⟨11, 300, 0⟩, ⟨17, 13, 0⟩, ⟨24, 600, 120⟩, ⟨30, 600, 120⟩] 2200 =
      [(17, 13), (11, 300), (2, 400), (24, 496), (30, 496), (6, 495)] := by decide +kernel

/-- Spec 4.11: the pass that yields a rest. -/
def yieldState : State :=
  let dock (d : Dock) (v stored re ri : Nat) (s : State) : State :=
    s.setDock d { boundTo v d with capacity := 3000, stored := stored, ratedExport := re, ratedIntake := ri }
  let plan (v departure energy : Nat) : Plan :=
    { vehicle := v, departure := departure, energy := energy, state := .waiting, hold := .none, source := none, pendingHold := false
      afterEvent := false, shortHoldOff := false }
  let s := dock 1 2 2100 600 600 (dock 3 4 1400 300 600 (dock 5 6 1500 600 600 (dock 7 8 1000 600 600 (dock 12 13 1150 600 300 day))))
  { ((s.setDock 8 { boundTo 9 8 with capacity := 2000, stored := 1400, ratedIntake := 200 }).setDock 20
      { boundTo 21 20 with stored := 1800, steering := .manual, manual := some 200 }) with
    evq := [{ id := 1, start := 60000, stop := 64600, target := 1500, committedInitial := 1500, committed := 1500, state := .active
              actualStart := some 60000 }]
    rpt := { Rpt.reset with
      plans := [plan 2 100000 0, plan 4 100000 0, plan 6 100000 0, plan 8 100000 0, plan 13 66400 1200, plan 21 100000 0] }
    rot := { Rot.reset with list := [some 1], state := .rest (some 1), yieldOn := true, bTimer := some 150 }
    slu := { day.slu with table := Vector.replicate 48 2000 }
    alc := { Alc.reset with previousNet := 1500, previousIntake := 400, previousPass := 98 } }

theorem test_yield_example_setpoints :
    ([1, 3, 5, 7, 8, 12, 20] : List Dock).map (fun d => ((runPass yieldState).dock d).setpoint) = [550, 300, 550, 400, -200, -300,
      200] := by decide +kernel

theorem test_yield_example_totals :
    (runPass yieldState).alc = { previousNet := 1500, previousIntake := 500, previousPass := 100, lastShortfall := 0, lastYield := true } ∧
    (runPass yieldState).rot.yieldCount = 1 ∧ ((runPass yieldState).dock 12).floor = 1276 ∧
      ((runPass yieldState).dock 8).floor = 2000 := by decide +kernel

/-- Spec 4.11, without the yield: net 400 and shortfall 1100. -/
theorem test_yield_off :
    (runPass { yieldState with rot := { yieldState.rot with yieldOn := false } }).alc.previousNet = 400 ∧
    (runPass { yieldState with rot := { yieldState.rot with yieldOn := false } }).alc.lastShortfall = 1100 := by decide +kernel

/-- Spec 2.5, cases A and B: floors 600 and 1276 of capacity 3000. -/
theorem test_floor_example :
    plannedFloor Rpt.reset { vehicle := 3107, departure := 61200 + 48600, energy := 900, state := .waiting, hold := .none, source := none
                             pendingHold := false, afterEvent := false, shortHoldOff := false } 3000 600 68400 = 600 ∧
    plannedFloor Rpt.reset { vehicle := 3107, departure := 61200 + 9000, energy := 1200, state := .waiting, hold := .none, source := none
                             pendingHold := false, afterEvent := false, shortHoldOff := false } 3000 600 68400 = 1276 := by decide +kernel

/-- Spec 3.3: the headroom term of an offer with an override that expires inside the window. -/
theorem test_offer_headroom_example :
    headroomTerm { day with
      dck := { day.dck with depotTime := 55800 }
      slu := { day.slu with
        table := (((Vector.replicate 48 1800).set 35 1600).set 36 1400).set 37 2000
        limit := some { value := 1200, expiry := 63000 } } } 61200 68400 = 1200 := by decide +kernel

/-- Spec 4.12: the pass at the hold-off expiry, 1 s after a trip pass, may export 500. -/
theorem test_ramp_after_trip :
    netTarget { day with alc := { Alc.reset with previousPass := 99 } }
      { id := 1, start := 0, stop := 90000, target := 1500, committedInitial := 1500, committed := 1500, state := .active, actualStart := some 0 } =
      500 := by decide +kernel

/-- Spec 5.7: A expiry takes group 0 and starts the B timer; the pending setting is taken up at the next A expiry. -/
theorem test_rotation_example :
    (let s := after .intervalAExpiry { day with rot := { Rot.reset with
      list := [some 0, some 1, some 2, some 3], state := .work, aTimer := some 100 } }
     s.rot.state = .rest (some 0) ∧ s.rot.bTimer = some 400 ∧ s.rot.cursor = 1) ∧
    (let s := after .intervalAExpiry { day with rot := { Rot.reset with
      list := [some 0, some 1, some 2, some 3], state := .work, aTimer := some 100, cursor := 1
      pendingSetting := some { list := [some 2, none], yieldOn := true } } }
     s.rot.state = .rest (some 2) ∧ s.rot.list = [some 2, none] ∧ s.rot.yieldOn = true ∧ s.rot.cursor = 1) := by decide +kernel

/-- Spec 7.7: the first interval is met, its percentage clamped to 100; the second, of 6800 Wh, is not met, at 81. -/
theorem test_interval_example :
    (let i : Interval := { start := 61200, committed := 1000, meterNet := 8600, dockExport := 8750, dockIntake := 0 }
     i.target 300 = 8333 ∧ i.met 100 300 = true ∧ i.percentage 100 300 = 100 ∧ i.divergent 100 = false) ∧
    (let i : Interval := { start := 61500, committed := 1000, meterNet := 6800, dockExport := 7100, dockIntake := 150 }
     i.met 100 300 = false ∧ i.percentage 100 300 = 81 ∧ i.divergent 100 = false) := by decide +kernel

/-- The payload of a STATUS: vehicle, stored, capacity, measured, ratings, counters, phase, fault. -/
def statusPayload (v stored capacity : Nat) (measured : Int) (exported taken : Nat) (phase fault : Byte) : List Byte :=
  le16 v ++ le16 stored ++ le16 capacity ++ le16 (measured % 65536).toNat ++ le16 600 ++ le16 600 ++ le32 exported ++ le32 taken ++ [phase, fault]

/-- Spec 7.7: dock 15 restarts; 180 against a baseline of 512340 after 1 s is a restart and a jump, and 26 Wh are credited. -/
theorem test_counter_restart_example :
    let s := after (.status 15 false (statusPayload 2303 2500 3000 0 180 0 0 0))
      (day.setDock 14 { boundTo 2303 14 with exportBase := 512340, lastReport := 99 })
    (s.dock 14).dayThroughput = 26 ∧ (s.dock 14).restartCount = 1 ∧ (s.dock 14).jumpCount = 1 ∧ (s.dock 14).exportBase = 180 := by decide +kernel

/-- Spec 8.7: the TIME SET from UNSET is a rollover that invalidates a today-only table; a trim back over midnight is none. -/
theorem test_clock_example :
    (setClock Moment.all 3999189600 { State.reset with slu := { Slu.reset false with
      tableValid := true, tripSeconds := 40 } }).slu.tableValid = false ∧
    (setClock Moment.all 3999189600 { State.reset with slu := { Slu.reset false with
      tableValid := true, tripSeconds := 40 } }).slu.tripSeconds = 0 ∧
    trimmedTime { day with dck := { day.dck with depotTime := 3999196804 } } (-10) = 3999196794 := by decide +kernel

/-- Spec 9.10: the payloads of sequences 3 and 7. -/
theorem test_echo_payload_example :
    echoPayload 3 = [3, 122, 133, 144, 155, 166, 177, 188] ∧ echoPayload 7 = [7, 14, 25, 36, 47, 58, 69, 80] := by decide +kernel

/-! ### Encodings -/

/-- The check value of the polynomial 0x1021 from 0xFFFF, most significant bit first, over the text 123456789 (general knowledge). -/
theorem test_crc_check_value : crcBytes [0x31, 0x32, 0x33, 0x34, 0x35, 0x36, 0x37, 0x38, 0x39] = 0x29B1#16 := by decide +kernel

/-- R163: after six equal levels comes one of the opposite level. -/
theorem test_stuffing : stuff (List.replicate 7 false) = List.replicate 6 false ++ [true, false] := by decide +kernel

/-- R163: a CEASE is seen from start to destination as priority 0, source 0, destination 63. -/
theorem test_cease_line : (NetFrame.line .cease).take 16 =
    [false, false, false, false, false, false, true, false, false, false, true, true, true, true, true, true] := by decide +kernel

/-- Spec 11.2's DISPATCH CALL 301, its body written out byte by byte. -/
theorem test_dispatch_call_body :
    readRequest .grid 0x15 [0x2D, 0x01, 0x10, 0xEF, 0, 0, 0x30, 0x0B, 0x01, 0, 0xDC, 0x05, 0x20, 0x03] =
      .ok (.dispatchCall 301 61200 68400 1500 800) := by decide +kernel

/-- R183: the port's checks: set, kind, length. -/
theorem test_port_checks :
    readRequest .fleet 0x15 [0, 0] = .error .notPermitted ∧ readRequest .grid 0x1A [] = .error .unknownKind ∧
    readRequest .grid 0x17 [1] = .error .badLength := by decide +kernel

/-- R196: the lengths of the five notices. -/
theorem test_notice_lengths :
    (Notice.event .called { id := 301, start := 61200, stop := 68400, target := 1500, committedInitial := 1200, committed := 1200, state := .pending
                            actualStart := none } none).body.length = 25 ∧
    (Notice.trip .asserted .tripped 1 0 none 0 0).body.length = 21 ∧ (Notice.dock 0 .bound .bound 7 none).body.length = 9 ∧
    (Notice.hold 7 .deferred .hold (some .manual) false).body.length = 7 ∧
      (Notice.net .active .passive .tecCount 128 0 0 0).body.length = 12 := by decide +kernel

/-- R194: the longest queue answer has 248 bytes. -/
theorem test_longest_queue_answer :
    (let r : EventRecord :=
      { id := 1, start := 0, stop := 300, target := 10, committedInitial := 10, committed := 10, state := .pending, actualStart := none }
     let s := { eventDay with
       evq := List.replicate 8 r
       tly := { eventDay.tly with results := List.replicate 6 (expiredResult r) } }
     ((after (.queueQuery .grid) s).grid.lastAnswer.map fun f => f.body.length)) = some 248 := by decide +kernel

/-! ### Witnesses: for each statement with hypotheses, states and operands that meet them, clause by clause -/

/-- The bytes of a STATUS that reports the vehicle `v` and the fault code `fault`. -/
def reports (v : Nat) (fault : Byte) : Fin 22 → Byte := fun i => (statusPayload v 2500 3000 0 100 0 1 fault).getD i.val 0

/-- The fleet day in NET-OFF, the recovery timer due. -/
def netOffDay : State :=
  { fleetDay with dnc := { Dnc.reset with net := .off, tec := 256, recoveryTimer := some 100 } }

/-- The fleet day with a SETPOINT for dock 9 in transmission and one queued for dock 1. -/
def sendingDay : State :=
  { fleetDay with dnc := { Dnc.reset with
      queuedSetpoints := [{ dock := 0, value := 0, phase := true }]
      sending := some { frame := .setpoint { dock := 8, value := -600, phase := false }, withdrawn := false, superseded := false } } }

theorem test_netOffDay_net : netOffDay.NetOk := net_of_check (by decide +kernel)
theorem test_sendingDay_net : sendingDay.NetOk := net_of_check (by decide +kernel)

theorem test_witness_idle :
    ({ day with dck := { day.dck with uptimeDivider := 32766, depotDivider := 32766 } }).pending = [] ∧ day.dnc.echo.wait ≠ some 0 ∧
    day.dnc.echo.wait ≠ some 1 ∧ ({ day with dck := { day.dck with uptimeDivider := 32767 } }).dck.uptimeDivider = 32767 ∧
    ({ day with dck := { day.dck with depotDivider := 32767 } }).dck.running = true ∧ day.dck.depotTime < 4000000000 := by decide +kernel

theorem test_witness_trip_state_moves :
    (after .tripAssertion day).slu.trip = .tripped ∧ (after .tripRelease (after .tripAssertion day)).slu.trip = .holdoff ∧
    (after .holdoffExpiry { day with slu := { day.slu with trip := .holdoff, holdoffTimer := some 100 } }).slu.trip = .normal := by decide +kernel

theorem test_witness_steps_docks : fleetDay.DocksOk ∧ step fleetDay = .next (takePeriod fleetDay) := ⟨test_fleetDay_docks, rfl⟩

theorem test_witness_steps_plans :
    ({ eventDay with pending := [.planLoad 9 90000 500 true true] }).CommandsFit ∧
      ({ eventDay with pending := [.planLoad 9 90000 500 true true] }).PlansOk ∧
    step { eventDay with pending := [.planLoad 9 90000 500 true true] } = .next (after (.planLoad 9 90000 500 true true) eventDay) :=
  ⟨by intro c hc; rw [List.mem_singleton.1 hc]; decide +kernel, plans_of_check (by decide +kernel), rfl⟩

theorem test_witness_steps_events :
    ({ eventDay with pending := [.dispatchCancel 12] }).EventsOk ∧
    step { eventDay with pending := [.dispatchCancel 12] } = .next (after (.dispatchCancel 12) eventDay) :=
  ⟨events_of_check (by decide +kernel), rfl⟩

theorem test_witness_steps_net :
    sendingDay.NetOk ∧ sendingDay.TripQuiet ∧ step { sendingDay with pending := [.tripAssertion] } = .next (after .tripAssertion sendingDay) :=
  ⟨test_sendingDay_net, fun h => absurd rfl h, rfl⟩

theorem test_witness_quiet_in_a_trip : (after .tripAssertion sendingDay).slu.trip ≠ .normal ∧
    (after .tripAssertion sendingDay).dnc.sending =
      some { frame := .setpoint { dock := 8, value := -600, phase := false }, withdrawn := true, superseded := true } := by decide +kernel

theorem test_witness_steps_clock :
    day.ExpermOk ∧ day.ClockOk ∧ step { day with pending := [.tripAssertion] } = .next (after .tripAssertion day) :=
  ⟨⟨fun _ => ⟨rfl, rfl, rfl⟩, fun _ => rfl⟩,
    ⟨by decide +kernel, by decide +kernel, by decide +kernel, by decide +kernel, fun h => absurd h (by decide +kernel)⟩, rfl⟩

theorem test_witness_steps_ports :
    fleetDay.PortsOk ∧ step { fleetDay with pending := [.badFrame .grid] } = .next (after (.badFrame .grid) fleetDay) := ⟨test_fleetDay_ports, rfl⟩

theorem test_witness_request_bodies :
    (Request.timeTrim (-32768)).fits = true ∧ (Request.timeTrim (-32768)).kind.permitted .grid = true ∧
    (Request.rotationSet true (List.replicate 16 255)).fits = true ∧
      (Request.rotationSet true (List.replicate 16 255)).kind.permitted .fleet = true ∧
    Request.siteQuery.fits = true ∧ Request.siteQuery.kind.permitted .fleet = true := by decide +kernel

theorem test_witness_frames :
    (List.replicate 249 (0 : Byte)).length ≤ 249 ∧ (List.replicate 24 (0 : Byte)).length ≤ 24 ∧
    receiveWire (LinkFrame.wire { kind := 0x10, body := [0xC3, 0, 0, 0] }) = some { kind := 0x10, body := [0xC3, 0, 0, 0] } ∧
    (let f : NetWire := { priority := 3, source := 63, destination := 0, payload := [0, 255] }
     receiveLevels (stuff f.bits ++ true :: List.replicate 9 true) = .whole f) := by decide +kernel

/-- R163, R167: an accepted ECHO of dock 1 with a dominant last bit of its end is in error after its ack slot was driven; with a wrong check, a
seventh equal level or a length of 25 it is in error without. -/
theorem test_frames_in_error :
    (let f : NetWire := { priority := 3, source := 1, destination := 0, payload := List.replicate 8 0 }
     let line := stuff f.bits
     f.accepted = true ∧ receiveLevels (line ++ true :: (List.replicate 8 true ++ [false])) = .inError true ∧
     (List.replicate 16 true ≠ f.checkBits) ∧
     receiveLevels (stuff (false :: f.coveredBits ++ List.replicate 16 true) ++ List.replicate 10 true) = .inError false ∧
     (line.take 15).drop 9 = List.replicate 6 false ∧ receiveLevels (line.take 15 ++ [false]) = .inError false ∧
     receiveLevels (stuff (false :: f.headerBits ++ numberBits 5 25)) = .inError false) := by decide +kernel

/-- R164, R165: an ECHO to dock 1 read back with a dominant level in its priority has lost the arbitration, with a recessive one in its source
it meets a transmit error, as it does in its last bit; a dominant ack slot is the acknowledge. -/
theorem test_attempts :
    (let f : NetFrame := .echo { dock := 1, sequence := 1 }
     let n := f.line.length
     (f.driven.map Prod.snd).take 5 = [.start, .arbitration, .arbitration, .arbitration, .arbitration] ∧
     f.driven[n - 10]? = some (true, .ackSlot) ∧ f.driven[n - 1]? = some (true, .body) ∧
     f.attempt f.line = .transmitAttemptEnd (.wholeFrame false) ∧
     f.attempt (f.line.set 1 false) = .arbitrationLost ∧ f.attempt (f.line.set 3 true) = .transmitAttemptEnd .transmitError ∧
     f.attempt (f.line.set (n - 10) false) = .transmitAttemptEnd (.wholeFrame true) ∧
     f.attempt (f.line.set (n - 1) false) = .transmitAttemptEnd .transmitError ∧
     lineIdle (List.replicate 11 true) = true ∧ lineIdle (List.replicate 10 true ++ [false]) = false) := by decide +kernel

theorem test_witness_status : fleetDay.dnc.net ≠ .off ∧ (fleetDay.dock 4).state = .disabled ∧ (fleetDay.dock 0).state ≠ .disabled ∧
    (fleetDay.dock 9).state = .absent ∧ (fleetDay.dock 0).state ≠ .absent ∧ fleetDay.NetOk :=
  ⟨by decide +kernel, by decide +kernel, by decide +kernel, by decide +kernel, by decide +kernel, test_fleetDay_net⟩

/-- No holder of 20, a SILENT holder of 8, a BOUND holder of 7, and the last id 65534. -/
theorem test_witness_bind : fleetDay.dnc.net = .active ∧ (fleetDay.dock 3).state = .vacant ∧ (fleetDay.dock 9).state = .absent ∧
    u16 (reports 20 0 0) (reports 20 0 1) = 20 ∧ u16 (reports 65534 0 0) (reports 65534 0 1) = 65534 ∧ reports 20 0 21 = 0 ∧
    (∀ f : Dock, (fleetDay.dock f).vehicle ≠ some 20) ∧ (fleetDay.dock 1).vehicle = some 8 ∧ (fleetDay.dock 1).state = .silent ∧
    (fleetDay.dock 0).vehicle = some 7 ∧ (fleetDay.dock 0).state ≠ .silent := by decide +kernel

/-- An ABSENT record told no vehicle enters VACANT (R8). -/
theorem test_absent_told_none : ((after (statusOf 9 false (reports 0 0)) fleetDay).dock 9).state = .vacant ∧
    ((after (statusOf 9 false (reports 65535 0)) fleetDay).dock 9).state = .vacant := by decide +kernel

/-- Dock 1 releases 7, for which dock 3 waits; dock 9 releases 9, for which none waits. -/
theorem test_witness_release : (fleetDay.dock 0).state = .bound ∧ (fleetDay.dock 0).vehicle = some 7 ∧ firstWaiting 7 fleetDay = some 2 ∧
    (fleetDay.dock 8).state = .bound ∧ (fleetDay.dock 8).vehicle = some 9 ∧ firstWaiting 9 fleetDay = none ∧
    u16 (reports 0 0 0) (reports 0 0 1) = 0 ∧ u16 (reports 65535 0 0) (reports 65535 0 1) = 65535 ∧ reports 0 0 21 = 0 := by decide +kernel

/-- Dock 1, BOUND to 7, told 20 stays BOUND, told 8 takes it from SILENT dock 2, told 9 faults; dock 3, which waits for 7, has it each time. -/
theorem test_bound_told_another :
    ([20, 8, 9] : List Nat).map (fun v =>
      let t := after (statusOf 0 false (reports v 0)) fleetDay
      ((t.dock 0).state, (t.dock 0).vehicle, (t.dock 2).vehicle)) =
      [(.bound, some 20, some 7), (.bound, some 8, some 7), (.faulted, none, some 7)] := by decide +kernel

/-- Dock 7, FAULTED with NOT-FOLLOWING, told 20 binds it and stays FAULTED, told 9 stays without; dock 3, FAULTED for a duplicate of 7, told 20
is BOUND, told none is VACANT, told 9 waits for that; a record FAULTED with a vehicle told none releases it (R9). -/
theorem test_faulted_told_another :
    (fleetDay.dock 6).cause = some .notFollowing ∧ (fleetDay.dock 2).cause = some (.duplicateVehicle 7) ∧
    (([(6, 20), (6, 9), (2, 20), (2, 0), (2, 9)] : List (Dock × Nat)).map fun e =>
      let r := (after (statusOf e.1 false (reports e.2 0)) fleetDay).dock e.1
      (r.state, r.vehicle, r.cause)) =
      [(.faulted, some 20, some .notFollowing), (.faulted, none, some .notFollowing), (.bound, some 20, none), (.vacant, none, none),
       (.faulted, none, some (.duplicateVehicle 9))] ∧
    (let s := fleetDay.setDock 5 { fleetDay.dock 5 with cleanCount := 1 }
     docksCheck s = true ∧ (s.dock 5).vehicle = some 10 ∧
     (let r := (after (statusOf 5 false (reports 0 0)) s).dock 5
      (r.state, r.vehicle, r.cause) = (.faulted, none, some (.dock 3)))) := by decide +kernel

/-- Dock 2 returns to BOUND, dock 8, SILENT with POWER-MISMATCH, to FAULTED. -/
theorem test_witness_silence : (fleetDay.dock 1).state = .silent ∧ u16 (reports 8 0 0) (reports 8 0 1) = (fleetDay.dock 1).vehicle.getD 0 ∧
    (fleetDay.dock 1).cause = none ∧ (fleetDay.dock 7).state = .silent ∧ (fleetDay.dock 7).vehicle.getD 0 = u16 (reports 0 0 0) (reports 0 0 1) ∧
    (fleetDay.dock 7).cause = some .powerMismatch := by decide +kernel

/-- A VACANT record that reports code 16, a record with DOCK(3) and two clean reports, and one with NOT-FOLLOWING. -/
theorem test_witness_fault_code : (fleetDay.dock 3).state = .vacant ∧ u16 (reports 0 16 0) (reports 0 16 1) = (fleetDay.dock 3).vehicle.getD 0 ∧
    reports 0 16 21 ≠ 0 ∧ (fleetDay.dock 5).state = .faulted ∧ (fleetDay.dock 5).cause = some (.dock 3) ∧
    u16 (reports 10 0 0) (reports 10 0 1) = (fleetDay.dock 5).vehicle.getD 0 ∧ (fleetDay.dock 6).state = .faulted ∧
    (fleetDay.dock 6).cause = some .notFollowing ∧ (fleetDay.dock 6).vehicle.getD 0 = u16 (reports 0 0 0) (reports 0 0 1) := by decide +kernel

/-- The third clean report removes the DOCK cause (R14). -/
theorem test_third_clean_report :
    ((after (statusOf 5 false (reports 10 0)) fleetDay).dock 5).state = .bound ∧
      ((after (statusOf 5 false (reports 10 0)) fleetDay).dock 5).cause = none := by
  decide +kernel

theorem test_witness_follow_up : (fleetDay.dock 0).state = .bound ∧ some (u16 (reports 7 0 0) (reports 7 0 1)) = (fleetDay.dock 0).vehicle ∧
    u16 (reports 7 0 0) (reports 7 0 1) ≠ 0 ∧ u16 (reports 7 0 0) (reports 7 0 1) ≠ 65535 ∧ reports 7 0 21 = 0 := by decide +kernel

/-- The fourth wrong echo after an acknowledged phase faults the dock (R16). -/
theorem test_fourth_wrong_echo :
    let s := fleetDay.setDock 0 { fleetDay.dock 0 with phaseAcked := true, phaseMismatch := 3 }
    ((after (statusOf 0 false (reports 7 0)) s).dock 0).cause = some .notFollowing := by decide +kernel

theorem test_witness_echo : fleetDay.dnc.net = .active ∧ fleetDay.NetOk ∧ (echoPayload 1).length = 8 :=
  ⟨by decide +kernel, test_fleetDay_net, by decide +kernel⟩

/-- An echo test of one ECHO that gets its reply passes (R176). -/
theorem test_echo_passes :
    let s := { fleetDay with dnc := { Dnc.reset with
      echo := { state := .running, dock := 1, count := 1, sequence := 1, matched := 0, mismatched := 0, missed := 0, wait := some 10 } } }
    (after (.echoReply 1 false (echoPayload 1)) s).dnc.echo.state = .donePass ∧
      (after .echoWaitExpiry s).dnc.echo.state = .doneFail := by decide +kernel

/-- A STATUS from 41 or of 21 bytes is a foreign frame; in NET-OFF it is nothing (R167, R170). -/
theorem test_foreign_frames :
    (after (.status 41 false (List.replicate 22 0)) fleetDay).dnc.foreign = 1 ∧
      (after (.status 1 false (List.replicate 21 0)) fleetDay).dnc.foreign = 1 ∧
    (after (.echoReply 0 false (List.replicate 8 0)) fleetDay).dnc.foreign = 1 ∧
      (after (.status 1 false (List.replicate 22 0)) netOffDay) = netOffDay ∧
    (after (.frameInError true) netOffDay) = netOffDay ∧ (after (.frameInError true) fleetDay).dnc.recCount = 1 ∧
    (after (.frameInError true) fleetDay).dnc.ackDriven = true := by decide +kernel

theorem test_witness_attempts : sendingDay.dnc.sending.isSome = true ∧ fleetDay.dnc.sending = none ∧ fleetDay.dnc.net ≠ .off ∧
    netOffDay.dnc.net = .off ∧ sendingDay.dnc.net = .active := by decide +kernel

/-- A SETPOINT of 0 in transmission whose successor a CEASE has removed is dropped when its attempt is cut off; with none queued since, it is
returned (R166, R173). -/
theorem test_newer_setpoint_removed :
    let n : Dnc := { Dnc.reset with
      sending := some { frame := .setpoint { dock := 8, value := 0, phase := false }, withdrawn := false, superseded := false } }
    (n.queueSetpoint { dock := 8, value := 300, phase := true }).enqueueCease.returnFrame.queuedSetpoints = [] ∧
    n.enqueueCease.returnFrame.queuedSetpoints = [{ dock := 8, value := 0, phase := false }] := by decide +kernel

/-- The transmit error from 255 turns the net off (R169, R170). -/
theorem test_witness_transmit_error :
    let s := { sendingDay with dnc := { sendingDay.dnc with net := .passive, tec := 255 } }
    netCheck s = true ∧ s.dnc.sending.isSome = true ∧ (after (.transmitAttemptEnd .transmitError) s).dnc.net = .off ∧
    (after (.transmitAttemptEnd .transmitError) s).dnc.tec = 263 ∧
      (after (.transmitAttemptEnd .transmitError) sendingDay).dnc.tec = 8 := by decide +kernel

/-- The third missed SETPOINT makes the record SILENT (R20). -/
theorem test_third_missed_setpoint :
    let s := sendingDay.setDock 8 { sendingDay.dock 8 with missedAck := 2 }
    ((after (.transmitAttemptEnd (.wholeFrame false)) s).dock 8).state = .silent := by decide +kernel

/-- A whole attempt that brings TEC to 127 in NET-PASSIVE returns the net to NET-ACTIVE (R165, R169). -/
theorem test_witness_whole_attempts :
    sendingDay.NetOk ∧ sendingDay.dnc.sending.isSome = true ∧
    (let s := { sendingDay with dnc := { sendingDay.dnc with net := .passive, tec := 128 } }
     netCheck s = true ∧ (after (.transmitAttemptEnd (.wholeFrame true)) s).dnc.net = .active) :=
  ⟨test_sendingDay_net, by decide +kernel, by decide +kernel⟩

theorem test_witness_recovery : netOffDay.dnc.net = .off ∧ netOffDay.dnc.recoveryTimer = some 100 ∧ netOffDay.dck.uptime = 100 ∧
    fleetDay.dnc.net ≠ .off ∧ (after .recoveryTimerExpiry netOffDay).dnc.net = .active := by decide +kernel

/-- Dock 3 reported 3 s ago, dock 4 1 s ago; dock 2 is SILENT for 60 s, dock 8 for 10 s. -/
theorem test_witness_dock_timers : (fleetDay.dock 2).state = .faulted ∧ (fleetDay.dock 2).lastReport + 3 = fleetDay.dck.uptime ∧
    (fleetDay.dock 3).lastReport + 1 = fleetDay.dck.uptime ∧ (fleetDay.dock 1).silentSince = some 40 ∧ (fleetDay.dock 7).silentSince = some 90 ∧
    ((after (.reportTimeout 3) fleetDay).dock 2).state = .silent ∧ ((after (.reportTimeout 4) fleetDay).dock 3).state = .vacant ∧
    ((after (.silentGraceExpiry 2) fleetDay).dock 1).state = .absent ∧
      ((after (.silentGraceExpiry 8) fleetDay).dock 7).state = .silent := by decide +kernel

theorem test_witness_pass : eventDay.DocksOk ∧ eventDay.NetOk ∧ (after .tripAssertion day).slu.trip ≠ .normal ∧
    0 ≤ sumDocks (fun d => ((runPass yieldState).dock d).setpoint) :=
  ⟨test_eventDay_docks, test_eventDay_net, by decide +kernel, by decide +kernel⟩

theorem test_witness_normal_pass : yieldState.slu.trip = .normal ∧ yieldState.DocksOk ∧ yieldState.PlansOk :=
  ⟨rfl, docks_of_check (by decide +kernel), plans_of_check (by decide +kernel)⟩

/-- R42, R44: two vehicles on the short band in one pass are told in id order, not in the order of their docks. -/
theorem test_short_band_order :
    ((changeHolds (shortBandChange [9, 7]) { eventDay with rpt := { eventDay.rpt with
      plans := eventDay.rpt.plans.map fun p => { p with hold := .none, source := none } } }).fleet.sending,
     (changeHolds (shortBandChange [9, 7]) { eventDay with rpt := { eventDay.rpt with
      plans := eventDay.rpt.plans.map fun p => { p with hold := .none, source := none } } }).fleet.notices) =
      (some (.notice (.hold 7 .shortBand .hold (some .auto) true)), [.hold 9 .shortBand .hold (some .auto) false]) := by decide +kernel

theorem test_witness_waterFill :
    let l : List FillDock := [⟨0, 100, 0⟩, ⟨1, 100, 5⟩]
    (l.map FillDock.dock).Nodup ∧ (l.map FillDock.cap).sum ≤ 200 ∧ 199 < (l.map FillDock.cap).sum ∧
      waterFill l 199 = [(0, 100), (1, 99)] := by decide +kernel

theorem test_witness_trip : sendingDay.slu.trip ≠ .tripped ∧ sendingDay.NetOk ∧ netOffDay.slu.trip ≠ .tripped ∧ netOffDay.NetOk ∧
    (after .tripAssertion day).slu.trip = .tripped :=
  ⟨by decide +kernel, test_sendingDay_net, by decide +kernel, test_netOffDay_net, by decide +kernel⟩

/-- The hold-off timer due at this uptime, and the release that starts it. -/
theorem test_witness_release_and_holdoff :
    (after .tripRelease (after .tripAssertion day)).slu.holdoffTimer = some 160 ∧
    (after .holdoffExpiry { day with slu := { day.slu with trip := .holdoff, holdoffTimer := some 100 } }).slu.experm = true := by decide +kernel

theorem test_witness_uptime : fleetDay.DocksOk ∧ (fleetDay.dock 2).state = .faulted ∧ 3 ≤ 101 - (fleetDay.dock 2).lastReport :=
  ⟨test_fleetDay_docks, by decide +kernel, by decide +kernel⟩

/-- The A timer due at the second rests group 1, the B timer due goes back to work; a queue's end and start are reached by one counted second,
and so is the settlement boundary. -/
theorem test_witness_seconds :
    (advanceUptime UptimeOwner.all { eventDay with rot := { eventDay.rot with cursor := 0, aTimer := some 101 } }).rot.state = .rest (some 1) ∧
    (advanceUptime UptimeOwner.all { eventDay with rot := { eventDay.rot with
      state := .rest (some 1), aTimer := none, bTimer := some 101 } }).rot.state = .work ∧
    (countDepotSecond none Moment.all { eventDay with dck := { eventDay.dck with depotTime := 64499 } }).evq.map EventRecord.id = [12] ∧
    (countDepotSecond none Moment.all { eventDay with dck := { eventDay.dck with depotTime := 64499 } }).tly.results.length = 2 ∧
    ((countDepotSecond none Moment.all { eventDay with dck := { eventDay.dck with
      depotTime := 60999 } }).tly.tally.map fun y => y.intervalsTotal) = some 1 := by
  decide +kernel

/-- R69, R72 (log 35): at the end at 64500 a cancel that comes first ends the record CANCELLED at its end; a revise that comes first is refused
BAD-WINDOW with a new end, and the end is taken after it, with the power it was revised to. A request waits next as its row or as a frame, and names its record. -/
theorem test_cancel_and_revise_at_the_end :
    let s := countDepotSecond (some 11) Moment.all { eventDay with dck := { eventDay.dck with depotTime := 64499 } }
    s.dck.depotTime = 64500 ∧ s.evq.map EventRecord.id = [11, 12] ∧
    ((after (.dispatchCancel 11) s).tly.results.map fun x => (x.eventId, x.cause, x.actualEnd)) = [(5, .complete, 400), (11, .cancelled, 64500)] ∧
    (after (.dispatchRevise 11 0 64500) s).grid.lastAnswer = some { kind := 0x96, body := [2, 10] } ∧
    ((after (.dispatchRevise 11 0 64500) s).tly.results.map fun x => (x.eventId, x.cause, x.actualEnd)) = [(5, .complete, 400),
      (11, .complete, 64500)] ∧
    ((after (.dispatchRevise 11 20 0) s).tly.results.getLast?.map fun x => x.committedFinal) = some 20 ∧
    nextEventNamed { s with pending := [.dispatchCancel 11] } = some 11 ∧ nextEventNamed { s with pending := [.eventEnd] } = none ∧
    nextEventNamed { s with pending := [.goodFrame .grid 0x17 [11, 1]] } = some 267 := by
  decide +kernel

/-- R69, R160 (log 35): a cancel of another record leaves the end to the second; where windows touch, a cancel of the record behind leaves it its
start alone, and then withdraws it. -/
theorem test_request_of_another_record_leaves_the_end :
    let e := { eventDay with dck := { eventDay.dck with depotTime := 64499 } }
    let touching := { e with evq := e.evq.map fun r => if r.id = 12 then { r with start := 64500 } else r }
    (countDepotSecond (some 12) Moment.all e).evq.map EventRecord.id = [12] ∧
    ((countDepotSecond none Moment.all touching).evq.map fun r => (r.id, r.state)) = [(12, .active)] ∧
    (let s := countDepotSecond (some 12) Moment.all touching
     (s.evq.map fun r => (r.id, r.state)) = [(12, .pending)] ∧ (s.tly.results.map Result.eventId) = [5, 11] ∧
      (after (.dispatchCancel 12) s).evq = [] ∧ ((after (.dispatchCancel 12) s).tly.results.map Result.eventId) = [5, 11]) ∧
    (countDepotSecond (some 11) Moment.all touching).evq.map EventRecord.id = [11, 12] := by
  decide +kernel

/-- A forward TIME SET expires the passed record and starts none; a forward TIME TRIM ends the ACTIVE record at its end with its last interval
judged, and one to the next half hour has its pass (R73, R74, R75, R123). -/
theorem test_witness_clock_moves :
    (let s := setClock Moment.all 70300 { eventDay with evq := eventDay.evq.tail, tly := { eventDay.tly with tally := none } }
     s.evq = [] ∧ (s.tly.results.map fun x => (x.eventId, x.cause, x.actualEnd)) = [(5, .complete, 400), (12, .expired, 70300)]) ∧
    (let s := setClock Moment.all 70000 { eventDay with evq := eventDay.evq.tail, tly := { eventDay.tly with tally := none } }
     (s.evq.map EventRecord.actualStart) = [some 70000] ∧ s.tly.results.length = 1 ∧ s.alc.previousPass = 100) ∧
    (let y : Tally := { eventDay.tly.tally.getD (Tally.opened (calledRecord 0 0 0 0 0) 0) with
       interval := { start := 64200, committed := 1200, meterNet := 0, dockExport := 0, dockIntake := 0 } }
     let s := trimClock Moment.all 30 { eventDay with
       dck := { eventDay.dck with depotTime := 64490 }, tly := { eventDay.tly with tally := some y } }
     s.dck.depotTime < y.interval.start + 600 ∧ s.evq.map EventRecord.id = [12] ∧
     (s.tly.results.getLast?.map fun x => (x.eventId, x.actualEnd, x.intervalsTotal, x.intervalsMet)) = some (11, 64500, 1, 0)) ∧
    (trimClock Moment.all 10 { eventDay with
      alc := { eventDay.alc with previousPass := 99 }, dck := { eventDay.dck with depotTime := 61190 } }).alc.previousPass = 100 := by
  decide +kernel

theorem test_witness_depot_second :
    day.dck.running = true ∧ ({ day with dck := { day.dck with depotTime := 3999999999 } }).dck.depotTime < 4000000000 ∧
    ({ day with dck := { day.dck with depotTime := 86399 } }).dck.depotTime + 1 = 86400 ∧ State.reset.dck.running = false := by decide +kernel

theorem test_witness_moments : 2 ≤ (day.dck.uptime + 4294967296 - day.alc.previousPass) % 4294967296 ∧
    (after .allocationTimerExpiry day).alc.previousPass = 100 ∧
    (after .overrideExpiry { day with slu := { day.slu with limit := some { value := 5, expiry := 61000 } } }).slu.limit = none ∧
    (after .overrideExpiry { day with slu := { day.slu with limit := some { value := 5, expiry := 61001 } } }).slu.limit.isSome = true ∧
    State.reset.dck.running = false ∧ day.slu.trip ≠ .tripped ∧ day.slu.trip ≠ .holdoff ∧ day.rot.state ≠ .work ∧
      day.rot.state = .off := by decide +kernel

/-- A rollover returns an AUTO hold to NONE (R43); the DUE point is reached at departure less ready lead (R32). -/
theorem test_rollover_and_due : ((after .dayRollover eventDay).rpt.plans.map Plan.hold) = [.none, .none] ∧
    ((after (.planDue 9) eventDay).rpt.plans.map Plan.state) = [.due, .due] := by decide +kernel

/-- TIME SET while the first record is ACTIVE, beyond the last time, and TIME TRIM by 31 are refused (R157, R158). -/
theorem test_witness_clock_requests : (activeRecord eventDay.evq).isSome = true ∧
    (after (.timeSet 5) eventDay).grid.lastAnswer = some { kind := 0x90, body := [2, 6] } ∧
    (after (.timeSet 4000000001) day).grid.lastAnswer = some { kind := 0x90, body := [2, 4] } ∧
    (after (.timeTrim 31) day).grid.lastAnswer = some { kind := 0x91, body := [2, 4] } ∧
    (after (.timeTrim 1) State.reset).grid.lastAnswer = some { kind := 0x91, body := [2, 5] } := by decide +kernel

/-- The record starts at its start, and the ACTIVE one ends at its end. -/
theorem test_witness_event_start_and_end :
    (let s := { fleetDay with evq := [{ id := 12, start := 61000, stop := 61300, target := 10, committedInitial := 10, committed := 10
                                        state := .pending, actualStart := none }] }
     (after .eventStart s).evq.map EventRecord.state = [.active] ∧ (after .eventStart s).tly.tally.isSome = true) ∧
    (let s := { eventDay with dck := { eventDay.dck with depotTime := 64500 } }
     eventsCheck s = true ∧ (after .eventEnd s).evq.map EventRecord.id = [12] ∧
     (after .eventEnd s).tly.results.map Result.eventId = [5, 11]) := by decide +kernel

/-- R41, R149: at the end the pending hold becomes HOLD (MANUAL), a participant with the after-event flag HOLD (AUTO), and the boundary passed
and the last interval are judged. -/
theorem test_event_end_holds_and_intervals :
    let p : Plan := { vehicle := 10, departure := 90000, energy := 0, state := .waiting, hold := .none, source := none, pendingHold := false
                      afterEvent := true, shortHoldOff := false }
    let t := after .eventEnd { eventDay with
      dck := { eventDay.dck with depotTime := 64510 }
      rpt := { eventDay.rpt with plans := eventDay.rpt.plans ++ [p] }
      tly := { eventDay.tly with tally := eventDay.tly.tally.map fun y => { y with
        participants := [(7, 8750), (10, 5)], interval := { y.interval with start := 64199 } } } }
    (t.rpt.plans.map fun q => (q.vehicle, q.hold, q.source)) = [(7, .hold, some .manual), (9, .hold, some .auto), (10, .hold, some .auto)] ∧
    (t.tly.results.getLast?.map fun x => (x.intervalsTotal, x.intervalsMet, x.worst)) = some (2, 1, 0) := by decide +kernel

/-- The boundary of the interval begun at 60700 is reached at 61000; the pending hold of vehicle 7 takes effect. -/
theorem test_witness_settlement : eventDay.evq.head?.map EventRecord.id = some 11 ∧
    ((after .settlementBoundary eventDay).tly.tally.map fun y => (y.intervalsTotal, y.intervalsMet, y.worst, y.interval.start)) =
      some (1, 1, some 100, 61000) ∧
    (after .settlementBoundary eventDay).rpt.plans.map Plan.hold = [.hold, .hold] := by decide +kernel

theorem test_witness_rotation_b :
    (after .intervalBExpiry { day with rot := { Rot.reset with list := [some 1], state := .rest (some 1), bTimer := some 100 } }).rot.aTimer =
      some 1000 := by decide +kernel

theorem test_meter_pulses : (after .meterExportPulse day).tly.siteExport = 100 ∧
    (after .meterImportPulse { day with tly := { Tly.reset with siteImport := 4294967295 } }).tly.siteImport = 99 := by decide +kernel

/-- Requests into an empty holding, behind one that is answered, and as a third. -/
theorem test_witness_good_frames :
    (let held : Held := { request := { kind := 0x62, body := [] }, answer := some { kind := 0xE2, body := [0, 0] } }
     let busy : State := { day with grid := { day.grid with holding := [held], sending := some (.answer { kind := 0xE2, body := [0, 0] }) } }
     Request.clockQuery.fits = true ∧ Request.clockQuery.kind.permitted .grid = true ∧ day.grid.holding = [] ∧ day.grid.sending = none ∧
     (after (.goodFrame .grid 0x62 []) day).grid.holding.length = 1 ∧ (after (.goodFrame .grid 0x62 []) busy).grid.holding.length = 2 ∧
     (after (.goodFrame .grid 0x62 []) (after (.goodFrame .grid 0x62 []) busy)).grid.overruns = 1) := by decide +kernel

/-- R183: a frame of another link's set, of no kind, and of a wrong length is answered by the port. -/
theorem test_port_refusals :
    (after (.goodFrame .grid 0x30 []) day).grid.sending = some (.answer { kind := 0xB0, body := [2, 1] }) ∧
    (after (.goodFrame .grid 0x1A []) day).grid.sending = some (.answer { kind := 0x9A, body := [2, 2] }) ∧
    (after (.goodFrame .grid 0x17 [1]) day).grid.sending = some (.answer { kind := 0x97, body := [2, 3] }) ∧
    (after (.goodFrame .grid 0x17 [1, 0, 0]) day).grid.sending = some (.answer { kind := 0x97, body := [2, 3] }) := by decide +kernel

/-- R184: the answer to a request row goes out before the notice it raises, which waits. -/
theorem test_answer_before_notice :
    let t := after (.dispatchCancel 12) eventDay
    t.grid.sending = some (.answer { kind := 0x97, body := [0, 0] }) ∧ t.grid.notices.length = 1 ∧ t.grid.holding.length = 1 ∧
    (after (.linkFrameSent .grid) t).grid.notices = [] := by decide +kernel

/-- The fourth bad frame in LOCKED returns the port to HUNT; a due quiet timer makes it QUIET. -/
theorem test_witness_bad_frames :
    (after (.badFrame .grid) { day with grid := { day.grid with badRun := 3 } }).grid.lock = .hunt ∧
    (after (.badFrame .grid) { day with grid := { day.grid with badRun := 2 } }).grid.badRun = 3 ∧
    (after (.quietTimerExpiry .grid) { day with grid := { day.grid with quietTimer := some 100 } }).grid.lock = .quiet ∧
    State.reset.grid.lock ≠ .locked := by decide +kernel

/-- An answer before a notice, the second request after it, and the notice queue at 7 and 8. -/
theorem test_witness_transmitter :
    (let a : LinkFrame := { kind := 0xE2, body := [0, 0] }
     let n : Notice := .hold 7 .deferred .hold (some .manual) false
     let held : Held := { request := { kind := 0x62, body := [] }, answer := some a }
     let p : Port := { day.grid with holding := [held], sending := some (.notice n), notices := [n] }
     (after (.linkFrameSent .grid) { day with grid := p }).grid.sending = some (.answer a) ∧
     (after (.linkFrameSent .grid) (after (.linkFrameSent .grid) { day with grid := p })).grid.sending = some (.notice n) ∧
     ((after (.linkFrameSent .grid) { day with
       grid := { p with holding := [held, { held with
         answer := none }], sending := some (.answer a) } }).grid.holding.map fun h => h.answer.isSome) = [true] ∧
     (readRequest .grid 0x62 []).toOption = some .clockQuery ∧
     ({ day.grid with lock := .hunt, notices := List.replicate 7 n }).raise n = { day.grid with lock := .hunt, notices := List.replicate 8 n } ∧
     ({ day.grid with lock := .hunt, notices := List.replicate 8 n }).raise n =
       { day.grid with lock := .hunt, notices := List.replicate 8 n, droppedNotices := 1 } ∧
     ({ p with notices := [] }).raise n = { p with notices := [n] } ∧
     ({ day.grid with holding := [{ held with answer := none }] }).raise n =
       { day.grid with holding := [{ held with answer := none }], notices := [n] } ∧
     day.grid.raise n = { day.grid with sending := some (.notice n) } ∧
     ({ day.grid with lock := .quiet }).raise n = { day.grid with lock := .quiet }) := by decide +kernel

theorem test_witness_request_rows : requestOf (.timeTrim 3) = some (.grid, .timeTrim 3) ∧ catalogueKind 0x1A = false ∧
    (after (.unknownKindRequest .grid 0x1A) day).grid.lastAnswer = some { kind := 0x9A, body := [2, 2] } := by decide +kernel

/-- A call that is not late, and a late one, of the docks and plans of the yield example without its event. -/
theorem test_witness_accepted_call :
    (let s : State := { yieldState with evq := [], rot := Rot.reset }
     eventsCheck s = true ∧ s.dck.running = true ∧ 301 ∉ s.eventIds ∧ 10 ≤ min 800 (windowOffer s 62000 62300) ∧
     10 ≤ min 800 (windowOffer s 61000 61300) ∧ activeRecord s.evq = none ∧
     (after (.dispatchCall 301 62000 62300 800 0) s).evq.map EventRecord.state = [.pending] ∧
     (after (.dispatchCall 302 61000 61300 800 0) s).evq.map EventRecord.state = [.active]) := by decide +kernel

/-- Log 34: after backward trims a call for a window ahead of the ACTIVE record is refused OVERLAP; an override that is dropped is not clamped. -/
theorem test_call_ahead_and_dropped_override :
    (after (.dispatchCall 13 60000 60300 100 0) { eventDay with dck := { eventDay.dck with depotTime := 59000 } }).grid.lastAnswer =
      some { kind := 0x95, body := [2, 8] } ∧
    (after (.headroomOverride 24001 61000) day).grid.lastAnswer = some { kind := 0x93, body := [0, 0, 0] } ∧
    (after (.headroomOverride 24001 61001) day).grid.lastAnswer = some { kind := 0x93, body := [1, 0, 1] } := by decide +kernel

theorem test_witness_revise_and_cancel : eventDay.EventsOk ∧ eventDay.PortsOk ∧ 13 ∉ eventDay.evq.map EventRecord.id ∧
    (after (.dispatchRevise 11 5 0) eventDay).evq.map EventRecord.committed = [10, 10] ∧
    (after (.dispatchRevise 11 1201 0) eventDay).grid.lastAnswer = some { kind := 0x96, body := [2, 18] } ∧
    (after (.dispatchCancel 12) eventDay).evq.map EventRecord.id = [11] ∧ (after (.dispatchCancel 11) eventDay).evq.map EventRecord.id = [12] ∧
    eventDay.tly.tally.isSome = true :=
  ⟨test_eventDay_events, test_eventDay_ports, by decide +kernel⟩

theorem test_witness_results : eventDay.EventsOk ∧ (after (.resultQuery 0 0) eventDay).tly.results.map Result.read = [true] ∧
    (after (.resultQuery 6 0) eventDay).grid.lastAnswer = some { kind := 0x99, body := [2, 19] } :=
  ⟨test_eventDay_events, by decide +kernel⟩

theorem test_witness_plans : eventDay.PlansOk ∧ 3 ∉ eventDay.rpt.plans.map Plan.vehicle ∧ 7 ∈ eventDay.rpt.plans.map Plan.vehicle ∧
    (after (.planLoad 8 61900 4001 true false) eventDay).rpt.plans.map Plan.state = [.due, .due, .waiting] ∧
    (after (.holdSetLockout 9) eventDay).rpt.plans.map Plan.hold = [.none, .lockout] :=
  ⟨test_eventDay_plans, by decide +kernel⟩

theorem test_witness_dock_requests : (fleetDay.dock 4).state = .disabled ∧ fleetDay.DocksOk ∧
    ((after (.dockDisable 1) fleetDay).dock 2).vehicle = some 7 ∧ ((after (.dockClear 7) fleetDay).dock 6).state = .vacant ∧
    ((after (.dockClear 8) fleetDay).dock 7).cause = none ∧ ((after (.dockEnable 5) fleetDay).dock 4).state = .absent ∧
    (after (.groupSet 41 0) fleetDay).fleet.lastAnswer = some { kind := 0xB8, body := [2, 13] } ∧
    ((after (.dockManual 1 700) fleetDay).dock 0).manual = some 600 :=
  ⟨by decide +kernel, test_fleetDay_docks, by decide +kernel⟩

end Sys2Proof.Tests
end

section
/-! The Route Plan Table under every command (R29): the queue of commands stays, and a sound table stays sound. Each operation of the model
gets one lemma, in the order of the model's files. -/

namespace Sys2Proof.RoutePlans

open Sys2Proof Sys2Proof.Machine

/-- From `s` to `t` the queue of commands is as it was, and a plan table sound before is sound after. -/
def Kept (s t : State) : Prop := t.pending = s.pending ∧ (s.PlansOk → t.PlansOk)

variable {s t : State}

theorem plansOk_congr (h : t.rpt.plans = s.rpt.plans) (hs : s.PlansOk) : t.PlansOk :=
  ⟨h ▸ hs.count, h ▸ hs.ascending, h ▸ hs.entries⟩

theorem Kept.refl (s : State) : Kept s s := ⟨rfl, id⟩

theorem Kept.trans {u : State} (h : Kept s t) (k : Kept t u) : Kept s u := ⟨k.1.trans h.1, k.2 ∘ h.2⟩

/-- Where neither the queue nor the entries change. -/
theorem Kept.same {u : State} (h : Kept s t) (hq : u.pending = t.pending) (hp : u.rpt.plans = t.rpt.plans) : Kept s u :=
  h.trans ⟨hq, plansOk_congr hp⟩

/-- From `p` to `q` an entry keeps its vehicle, and is within its ranges after when it was before (R29). -/
def EntryKept (p q : Plan) : Prop := q.vehicle = p.vehicle ∧ (p.Consistent → q.Consistent)

theorem EntryKept.refl (p : Plan) : EntryKept p p := ⟨rfl, id⟩

/-- A new plan state alone keeps the entry. -/
theorem EntryKept.withState (p : Plan) (st : PlanState) : EntryKept p { p with state := st } :=
  ⟨rfl, fun hp => ⟨hp.vehicle_range, hp.departure_range, hp.energy_range, hp.source_present⟩⟩

/-- New holds keep the entry when a source stands exactly at level HOLD. -/
theorem EntryKept.withHold (p : Plan) (level : HoldLevel) (source : Option HoldSource) (waits : Bool)
    (h : source.isSome = true ↔ level = .hold) : EntryKept p { p with hold := level, source := source, pendingHold := waits } :=
  ⟨rfl, fun hp => ⟨hp.vehicle_range, hp.departure_range, hp.energy_range, h⟩⟩

/-- Entries changed in place by such a change leave a sound table sound. -/
theorem Kept.entries {u : State} (h : Kept s t) {f : Plan → Plan} (hf : ∀ p, EntryKept p (f p)) (hq : u.pending = t.pending)
    (hp : u.rpt.plans = t.rpt.plans.map f) : Kept s u := by
  refine h.trans ⟨hq, fun ht => ⟨?_, ?_, ?_⟩⟩
  · simpa [hp] using ht.count
  · rw [hp, List.pairwise_map]
    exact ht.ascending.imp fun {p q} hpq => by rwa [(hf p).1, (hf q).1]
  · rw [hp]
    intro q hq'
    obtain ⟨p, hm, rfl⟩ := List.mem_map.mp hq'
    exact (hf p).2 (ht.entries p hm)

/-! ### The updates of the state -/

theorem Kept.setDock {d : Dock} {r : DockRecord} (h : Kept s t) : Kept s (t.setDock d r) := h.same rfl rfl
theorem Kept.modifyDock {d : Dock} {f : DockRecord → DockRecord} (h : Kept s t) : Kept s (t.modifyDock d f) := h.same rfl rfl
theorem Kept.mapPort {l : Link} {f : Port → Port} (h : Kept s t) : Kept s (t.mapPort l f) := h.same (by simp) (by simp)
theorem Kept.mapDnc {f : Dnc → Dnc} (h : Kept s t) : Kept s (t.mapDnc f) := h.same rfl rfl
theorem Kept.mapTally {f : Tally → Tally} (h : Kept s t) : Kept s (t.mapTally f) := h.same rfl rfl
theorem Kept.mapEvq {f : List EventRecord → List EventRecord} (h : Kept s t) : Kept s (t.mapEvq f) := h.same rfl rfl
theorem Kept.drawn (h : Kept s t) : Kept s t.drawn := h.same rfl rfl
theorem Kept.withSlu {u : Slu} (h : Kept s t) : Kept s { t with slu := u } := h.same rfl rfl
theorem Kept.settleExperm (h : Kept s t) : Kept s (settleExperm t) := h.same rfl rfl
theorem Kept.raiseOn {l : Link} {n : Notice} (h : Kept s t) : Kept s (raiseOn l n t) := h.mapPort
theorem Kept.raiseBoth {n : Notice} (h : Kept s t) : Kept s (raiseBoth n t) := h.mapPort.mapPort

/-- A fold of operations that keep the table keeps it. -/
theorem Kept.foldl {α : Type} {f : State → α → State} (hf : ∀ u a, Kept u (f u a)) (l : List α) (h : Kept s t) : Kept s (l.foldl f t) :=
  foldl_keeps_pred (Kept s) f l (fun u a _ hu => hu.trans (hf u a)) t h

/-! ### Entries (R32, R33, R37 to R44) -/

theorem Kept.updatePlan {v : Nat} {f : Plan → Plan} (hf : ∀ p, EntryKept p (f p)) (h : Kept s t) :
    Kept s (t.mapPlans (updatePlan v f)) := by
  refine h.entries (f := fun p => if p.vehicle = v then f p else p) (fun p => ?_) rfl rfl
  split
  · exact hf p
  · exact .refl p

theorem dueAt_keeps (lead now : Nat) (p : Plan) : EntryKept p (dueAt lead now p) := by
  unfold dueAt
  split
  · exact .withState p .due
  · exact .refl p

theorem Kept.checkDue (h : Kept s t) : Kept s (checkDue t) := by
  unfold Machine.checkDue
  split
  · exact h.entries (dueAt_keeps _ _) rfl rfl
  · exact h

theorem Kept.checkDueOf {v : Nat} (h : Kept s t) : Kept s (checkDueOf v t) := by
  unfold Machine.checkDueOf
  split
  · exact h.updatePlan (dueAt_keeps _ _)
  · exact h

theorem Kept.planReleased {u : Nat} (h : Kept s t) : Kept s (planReleased u t) := by
  refine h.updatePlan fun p => ?_
  split
  · exact .withState p .departed
  · exact .refl p

/-- A change of holds keeps the table when every entry it gives keeps vehicle and ranges. -/
theorem Kept.changeHolds {c : Plan → Option (Plan × HoldCause)}
    (hc : ∀ p, ∀ q ∈ c p, EntryKept p q.1) (h : Kept s t) : Kept s (changeHolds c t) := by
  refine h.entries (f := fun p => ((c p).map Prod.fst).getD p) (fun p => ?_) (by simp) (by simp)
  cases hq : c p with
  | none => simpa [hq] using EntryKept.refl p
  | some q => simpa [hq] using hc p q hq

theorem deferredChange_keeps (p : Plan) : ∀ q ∈ deferredChange p, EntryKept p q.1 := by
  intro q hq
  unfold deferredChange at hq
  split at hq <;> cases hq
  exact .withHold p _ _ _ (by simp)

theorem eventEndChange_keeps (l : List Nat) (p : Plan) :
    ∀ q ∈ eventEndChange l p, EntryKept p q.1 := by
  intro q hq
  unfold eventEndChange at hq
  split at hq
  · cases hq
    exact .withHold p _ _ _ (by simp)
  · split at hq <;> cases hq
    exact .withHold p _ _ _ (by simp)

theorem shortBandChange_keeps (l : List Nat) (p : Plan) :
    ∀ q ∈ shortBandChange l p, EntryKept p q.1 := by
  intro q hq
  unfold shortBandChange at hq
  split at hq <;> cases hq
  exact .withHold p _ _ _ (by simp)

theorem rolloverChange_keeps (p : Plan) : ∀ q ∈ rolloverChange p, EntryKept p q.1 := by
  intro q hq
  unfold rolloverChange at hq
  split at hq <;> cases hq
  exact .withHold p _ _ _ (by simp)

/-! ### The Dock Net Controller -/

theorem Kept.settleNet {c : NetCause} (h : Kept s t) : Kept s (settleNet c t) := by
  unfold Machine.settleNet
  dsimp only
  split
  · exact h
  · exact h.mapDnc.raiseOn

theorem Kept.restartNet {c : NetCause} (h : Kept s t) : Kept s (restartNet c t) := by
  unfold Machine.restartNet
  dsimp only
  split
  · exact h.mapDnc
  · exact h.mapDnc.raiseOn

theorem Kept.receiveForeign (h : Kept s t) : Kept s (receiveForeign t) := h.mapDnc.settleNet.mapDnc
theorem Kept.receiveInError {b : Bool} (h : Kept s t) : Kept s (receiveInError b t) := h.mapDnc.settleNet
theorem Kept.receiveAccepted {b : Bool} (h : Kept s t) : Kept s (receiveAccepted b t) := h.mapDnc.settleNet.mapDnc

/-! ### The Tally Unit -/

theorem Kept.takeCounters {d : Dock} {b : Bool} {n e i : Nat} (h : Kept s t) : Kept s (takeCounters d b n e i t) := by
  unfold Machine.takeCounters
  dsimp only
  split
  · exact h.setDock
  · exact h.setDock.mapTally

theorem Kept.closeTally {r : EventRecord} {c : EndCause} {n : Nat} (h : Kept s t) : Kept s (closeTally r c n t).1 := by
  unfold Machine.closeTally
  split
  · exact h.same rfl rfl
  · exact h

/-! ### The Dock Table -/

theorem Kept.enterFaulted {c : FaultCause} {d : Dock} (h : Kept s t) : Kept s (enterFaulted c d t) := h.modifyDock.raiseOn
theorem Kept.enterSilent {d : Dock} (h : Kept s t) : Kept s (enterSilent d t) := h.modifyDock.raiseOn.mapDnc

theorem Kept.leaveFaulted {b : Binding} {d : Dock} (h : Kept s t) : Kept s (leaveFaulted b d t) := by
  unfold Machine.leaveFaulted
  split <;> (dsimp only; split)
  · exact h.modifyDock
  · exact h.modifyDock.raiseOn
  · exact h.modifyDock
  · exact h.modifyDock.raiseOn

theorem Kept.bindVehicle {d : Dock} {x : Nat} (h : Kept s t) : Kept s (bindVehicle d x t) := h.modifyDock.raiseOn

theorem Kept.examineWaiting {u : Nat} (h : Kept s t) : Kept s (examineWaiting u t) := by
  unfold Machine.examineWaiting
  split
  · exact h.bindVehicle
  · exact h

theorem Kept.releaseVehicle {d : Dock} {u : Nat} {k : DockNoticeKind} (h : Kept s t) : Kept s (releaseVehicle d u k t) :=
  Kept.examineWaiting (Kept.planReleased h.modifyDock.raiseOn)

theorem Kept.bindAttempt {d : Dock} {x : Nat} {u : State} (hu : bindAttempt d x t = some u) (h : Kept s t) : Kept s u := by
  unfold Machine.bindAttempt at hu
  split at hu
  · cases hu
    exact h.bindVehicle
  · split at hu <;> cases hu
    exact Kept.bindVehicle h.modifyDock.raiseOn

theorem Kept.statusRecord {d : Dock} {q : StatusReport} (h : Kept s t) : Kept s (statusRecord d q t) := h.modifyDock.takeCounters.modifyDock

theorem Kept.statusReturn {d : Dock} (h : Kept s t) : Kept s (statusReturn d t) := by
  unfold Machine.statusReturn
  dsimp only
  split
  · split <;> exact h.modifyDock.modifyDock.raiseOn
  · exact h

theorem Kept.bindOrFault {d : Dock} {x : Nat} {b : Binding} (h : Kept s t) : Kept s (bindOrFault d x b t).1 := by
  unfold Machine.bindOrFault
  split
  · next hu => exact h.bindAttempt hu
  · exact h.enterFaulted

theorem Kept.bindOrKeep {d : Dock} {x : Nat} {b : Binding} (h : Kept s t) : Kept s (bindOrKeep d x b t).1 := by
  unfold Machine.bindOrKeep
  split
  · next hu => exact h.bindAttempt hu
  · exact h

theorem Kept.statusVehicleTrusted {d : Dock} {x : Nat} (h : Kept s t) : Kept s (statusVehicleTrusted d x t).1 := by
  unfold Machine.statusVehicleTrusted
  dsimp only
  split
  · split
    · exact h
    · split
      · exact h.releaseVehicle.modifyDock
      · exact h.releaseVehicle.bindOrFault
  · split
    · exact h.modifyDock.raiseOn
    · exact h.bindOrFault
  · split
    · exact h
    · exact h.bindOrFault

theorem Kept.statusVehicleFaulted {d : Dock} {x : Nat} (h : Kept s t) : Kept s (statusVehicleFaulted d x t).1 := by
  unfold Machine.statusVehicleFaulted
  dsimp only
  split
  · split
    · exact h.leaveFaulted
    · split
      · next hu => exact h.bindAttempt hu
      · exact h.modifyDock
  · split
    · exact h
    · split
      · exact h.releaseVehicle
      · exact h.releaseVehicle.bindOrKeep
  · split
    · exact h
    · exact h.bindOrKeep

theorem Kept.statusVehicle {d : Dock} {x : Nat} (h : Kept s t) : Kept s (statusVehicle d x t).1 := by
  unfold Machine.statusVehicle
  split
  · exact h.statusVehicleFaulted
  · exact h.statusVehicleTrusted

theorem Kept.statusFault {d : Dock} {c : Nat} {b : Binding} (h : Kept s t) : Kept s (statusFault d c b t) := by
  unfold Machine.statusFault
  dsimp only
  split
  · split
    · split
      · exact h.modifyDock
      · split
        · exact h.modifyDock.leaveFaulted
        · exact h.modifyDock
    · exact h
  · split
    · exact h.enterFaulted
    · exact h

theorem Kept.checkPhaseEcho {d : Dock} {b : Bool} (h : Kept s t) : Kept s (checkPhaseEcho d b t) := by
  unfold Machine.checkPhaseEcho
  dsimp only
  split
  · split
    · split
      · exact h.modifyDock.enterFaulted
      · exact h.modifyDock
    · exact h.modifyDock
  · exact h

theorem Kept.checkPower {d : Dock} {b : Bool} {m : Int} (h : Kept s t) : Kept s (checkPower d b m t) := by
  unfold Machine.checkPower
  dsimp only
  split
  · split
    · split
      · exact h.modifyDock.enterFaulted
      · exact h.modifyDock
    · exact h.modifyDock
  · exact h

theorem Kept.takeStatus {d : Dock} {q : StatusReport} (h : Kept s t) : Kept s (takeStatus d q t) := by
  unfold Machine.takeStatus Machine.statusChecks
  dsimp only
  split
  · exact h
  · split
    · exact h.statusRecord.statusReturn.statusVehicle.statusFault.checkPhaseEcho.checkPower
    · exact h.statusRecord.statusReturn.statusVehicle.statusFault

theorem Kept.reportTimeout {d : Dock} (h : Kept s t) : Kept s (reportTimeout d t) := by
  unfold Machine.reportTimeout
  split
  · exact h.enterSilent
  · exact h

theorem Kept.silentGrace {d : Dock} (h : Kept s t) : Kept s (silentGrace d t) := by
  unfold Machine.silentGrace
  split
  · dsimp only
    split
    · exact h.modifyDock.releaseVehicle.modifyDock
    · exact Kept.modifyDock h.modifyDock.raiseOn
  · exact h

theorem Kept.setpointEnded {d : Dock} {p a : Bool} (h : Kept s t) : Kept s (setpointEnded d p a t) := by
  unfold Machine.setpointEnded
  dsimp only
  split
  · exact h.modifyDock
  · split
    · split
      · exact h.modifyDock.enterSilent
      · exact h.modifyDock
    · exact h

theorem Kept.disableDock {d : Dock} (h : Kept s t) : Kept s (disableDock d t) := by
  unfold Machine.disableDock
  dsimp only
  split
  · exact h.modifyDock.releaseVehicle.modifyDock.mapDnc
  · exact h.modifyDock.modifyDock.mapDnc

/-! ### The Allocator and the Event Queue -/

theorem Kept.runPass (h : Kept s t) : Kept s (runPass t) := by
  refine (Kept.changeHolds (shortBandChange_keeps (passOutcome t).handOver) h).same ?_ ?_
  · simp
  · rw [runPass_rpt, applyShortBand]

theorem Kept.startFirst (h : Kept s t) : Kept s (startFirst t) := by
  unfold Machine.startFirst
  split
  · exact Kept.raiseBoth (Kept.runPass (h.same rfl rfl))
  · exact h

theorem Kept.startIfReached (h : Kept s t) : Kept s (startIfReached t) := by
  unfold Machine.startIfReached
  split
  · exact h.startFirst
  · exact h

theorem Kept.endActive {r : EventRecord} {c : EndCause} {n : Nat} (h : Kept s t) : Kept s (endActive r c n t) := by
  have hc : Kept s (Machine.closeTally r c n (t.mapEvq fun q => q.erase r)).1 := h.mapEvq.closeTally
  exact Kept.raiseBoth (Kept.runPass ((hc.changeHolds (eventEndChange_keeps _)).same rfl rfl))

theorem Kept.endIfReached (h : Kept s t) : Kept s (endIfReached t) := by
  unfold Machine.endIfReached
  split
  · exact h.endActive
  · exact h

theorem Kept.expirePassed (h : Kept s t) : Kept s (expirePassed t) := by
  refine Kept.foldl (fun u r => ?_) _ h.mapEvq
  exact Kept.raiseBoth ((Kept.refl u).same rfl rfl)

theorem Kept.takeReached {i : Option Nat} (h : Kept s t) : Kept s (takeReached i t) := by
  rcases takeReached_cases t i with ⟨_, e⟩ | ⟨_, _, e⟩ | ⟨_, _, e⟩ <;> rw [e]
  · exact h
  · exact h.endIfReached
  · exact h.endIfReached.startIfReached

theorem Kept.takeAfterRequest (h : Kept s t) : Kept s (takeAfterRequest t) := by
  rcases takeAfterRequest_cases t with ⟨_, _, e⟩ | ⟨_, e⟩ <;> rw [e]
  · exact h
  · exact h.drawn.takeReached

theorem Kept.settlementIfReached (h : Kept s t) : Kept s (settlementIfReached t) := by
  unfold Machine.settlementIfReached Machine.passSettlement
  split
  · split
    · dsimp only
      split
      · exact Kept.runPass (h.mapTally.changeHolds deferredChange_keeps)
      · exact h.mapTally.changeHolds deferredChange_keeps
    · exact h
  · exact h

/-! ### The trip line, the clock and the uptime -/

theorem Kept.assertTrip (h : Kept s t) : Kept s (assertTrip t) := by
  unfold Machine.assertTrip
  split
  · exact h
  · exact Kept.raiseBoth (Kept.withSlu (Kept.runPass (Kept.mapDnc (Kept.settleExperm h.withSlu))))

theorem Kept.releaseTrip (h : Kept s t) : Kept s (releaseTrip t) := by
  unfold Machine.releaseTrip
  split
  · exact Kept.raiseBoth (h.same rfl rfl)
  · exact h

theorem Kept.expireHoldoff (h : Kept s t) : Kept s (expireHoldoff t) := by
  unfold Machine.expireHoldoff
  split
  · exact Kept.raiseBoth (Kept.runPass (Kept.settleExperm (h.same rfl rfl)))
  · exact h

theorem Kept.countTripSecond (h : Kept s t) : Kept s (countTripSecond t) := by
  unfold Machine.countTripSecond
  split
  · exact h
  · dsimp only
    split
    · exact Kept.mapTally (h.same rfl rfl)
    · exact h.same rfl rfl

theorem Kept.rollover (h : Kept s t) : Kept s (rollover t) :=
  Kept.settleExperm ((h.changeHolds rolloverChange_keeps).same rfl rfl)

theorem Kept.overrideIfReached (h : Kept s t) : Kept s (overrideIfReached t) := by
  unfold Machine.overrideIfReached
  split
  · exact Kept.runPass (h.same rfl rfl)
  · exact h

theorem Kept.takeMoment {m : ClockMove} {o : Moment} (h : Kept s t) : Kept s (takeMoment m t o) := by
  cases o <;> (unfold Machine.takeMoment; dsimp only; split)
  · unfold eventMoments
    split
    · exact h.expirePassed.takeReached
    · exact h.takeReached
  · exact h
  · exact h.checkDue
  · exact h
  · exact h.settlementIfReached
  · exact h
  · exact h.runPass
  · exact h
  · exact h.overrideIfReached
  · exact h

theorem Kept.deliver {l : List Moment} {m : ClockMove} (h : Kept s t) : Kept s (deliver l m t) :=
  h.foldl (fun u _ => (Kept.refl u).takeMoment) l

theorem Kept.countDepotSecond {i : Option Nat} {l : List Moment} (h : Kept s t) : Kept s (countDepotSecond i l t) := by
  unfold Machine.countDepotSecond
  split
  · dsimp only
    split
    · exact Kept.deliver (Kept.rollover (h.same rfl rfl))
    · exact Kept.deliver (h.same rfl rfl)
  · exact h

theorem Kept.setClock {l : List Moment} {n : Nat} (h : Kept s t) : Kept s (setClock l n t) := by
  unfold Machine.setClock
  dsimp only
  split
  · exact Kept.deliver (Kept.rollover (Kept.settleExperm (h.same rfl rfl)))
  · exact Kept.deliver (Kept.settleExperm (h.same rfl rfl))

theorem Kept.trimClock {l : List Moment} {d : Int} (h : Kept s t) : Kept s (trimClock l d t) := by
  unfold Machine.trimClock
  dsimp only
  split
  · exact Kept.deliver (Kept.rollover (h.same rfl rfl))
  · exact Kept.deliver (h.same rfl rfl)

theorem Kept.expireIntervalA (h : Kept s t) : Kept s (expireIntervalA t) := by
  unfold Machine.expireIntervalA
  split
  · exact Kept.runPass (h.same rfl rfl)
  · exact h

theorem Kept.expireIntervalB (h : Kept s t) : Kept s (expireIntervalB t) := by
  unfold Machine.expireIntervalB
  split
  · exact Kept.runPass (h.same rfl rfl)
  · exact h

theorem Kept.expireAllocation (h : Kept s t) : Kept s (expireAllocation t) := by
  unfold Machine.expireAllocation
  split
  · exact h.runPass
  · exact h

theorem Kept.expireRecovery (h : Kept s t) : Kept s (expireRecovery t) := by
  unfold Machine.expireRecovery
  split
  · exact h.restartNet
  · exact h

theorem Kept.takeAdvance {due : Bool} {o : UptimeOwner} (h : Kept s t) : Kept s (takeAdvance due t o) := by
  cases o with
  | tripSeconds => exact h.countTripSecond
  | allocation =>
    unfold Machine.takeAdvance
    dsimp only
    split
    · exact h.runPass
    · exact h
  | holdoff => exact h.expireHoldoff
  | intervalA => exact h.expireIntervalA
  | intervalB => exact h.expireIntervalB
  | recovery => exact h.expireRecovery
  | quiet l => exact h.mapPort
  | report d => exact h.reportTimeout
  | grace d => exact h.silentGrace

theorem Kept.takeUptimeSecond (h : Kept s t) : Kept s (takeUptimeSecond t) :=
  Kept.foldl (fun u _ => (Kept.refl u).takeAdvance) _ (h.drawn.same rfl rfl)

theorem Kept.takeDepotSecond (h : Kept s t) : Kept s (takeDepotSecond t) := h.drawn.countDepotSecond

theorem Kept.expireEchoWait (h : Kept s t) : Kept s (expireEchoWait t) := by
  unfold Machine.expireEchoWait
  split
  · exact h.mapDnc
  · exact h

theorem Kept.takePeriodEvent {e : PeriodEvent} (h : Kept s t) : Kept s (takePeriodEvent t e) := by
  unfold Machine.takePeriodEvent
  split
  · cases e with
    | uptimeSecond => exact h.takeUptimeSecond
    | depotSecond => exact h.takeDepotSecond
    | echoWait => exact h.expireEchoWait
  · exact h

theorem Kept.takePeriod (h : Kept s t) : Kept s (takePeriod t) := by
  have hc : Kept s (countPeriod t) := h.same rfl rfl
  unfold Machine.takePeriod
  dsimp only
  split
  · exact hc
  · exact Kept.foldl (fun u _ => (Kept.refl u).takePeriodEvent) _ hc.drawn


/-! ### Requests (R31 to R39 for the table, R183 for their bodies) -/

theorem mem_findPlan {plans : List Plan} {v : Nat} {p : Plan} (h : findPlan plans v = some p) : p ∈ plans ∧ p.vehicle = v :=
  ⟨List.mem_of_find?_eq_some h, by simpa using List.find?_some h⟩

/-- Inserting by a total, transitive test keeps a list ordered by it. -/
theorem insertPlan_ascending {p : Plan} {l : List Plan} (hl : l.Pairwise fun a b => a.vehicle < b.vehicle)
    (hp : ∀ q ∈ l, q.vehicle ≠ p.vehicle) : (insertPlan p l).Pairwise fun a b => a.vehicle < b.vehicle := by
  induction l with
  | nil => simp [insertPlan, insertBy]
  | cons a l ih =>
    obtain ⟨ha, hl'⟩ := List.pairwise_cons.mp hl
    have hne := hp a List.mem_cons_self
    unfold insertPlan insertBy
    split
    · next hle =>
      have hlt : p.vehicle < a.vehicle := by have := of_decide_eq_true hle; omega
      refine List.pairwise_cons.mpr ⟨fun q hq => ?_, hl⟩
      rcases List.mem_cons.mp hq with rfl | hq
      · exact hlt
      · exact hlt.trans (ha q hq)
    · next hle =>
      have hlt : a.vehicle < p.vehicle := by
        have : ¬p.vehicle ≤ a.vehicle := by simpa using hle
        omega
      refine List.pairwise_cons.mpr ⟨fun q hq => ?_, ih hl' fun q hq => hp q (List.mem_cons_of_mem _ hq)⟩
      rcases List.mem_cons.mp ((insertBy_perm _ p l).mem_iff.mp hq) with rfl | hq
      · exact hlt
      · exact ha q hq

/-- A loaded entry is within its ranges when its vehicle and departure are, its holds being those of the old one (R31). -/
theorem loadedPlan_consistent {old : Option Plan} {v dep energy : Nat} (a b : Bool) (hold : ∀ p ∈ old, p.Consistent)
    (hv : 1 ≤ v ∧ v ≤ 65534) (hd : dep ≤ depotTimeMax) : (loadedPlan old v dep (min energy 4000) a b).Consistent := by
  refine ⟨hv, hd, Nat.min_le_right _ _, ?_⟩
  cases old with
  | none => simp [loadedPlan]
  | some p => exact (hold p rfl).source_present

/-- Entering or replacing an entry within its ranges keeps a sound table with room for it sound (R29, R31). -/
theorem Kept.loadPlan {v : Nat} {p : Plan} (hv : p.vehicle = v) (hp : t.PlansOk → p.Consistent)
    (room : (findPlan t.rpt.plans v).isNone = true → t.rpt.plans.length < 64) (h : Kept s t) :
    Kept s (t.mapPlans fun plans => if (findPlan t.rpt.plans v).isSome then Machine.updatePlan v (fun _ => p) plans else insertPlan p plans) := by
  refine h.trans ⟨rfl, fun ht => ?_⟩
  have hc := hp ht
  cases hf : findPlan t.rpt.plans v with
  | some q =>
    have hmem : ∀ x ∈ Machine.updatePlan v (fun _ => p) t.rpt.plans, x = p ∨ x ∈ t.rpt.plans := by
      intro x hx
      obtain ⟨y, hy, rfl⟩ := List.mem_map.mp hx
      dsimp only
      split
      · exact .inl rfl
      · exact .inr hy
    refine ⟨by simpa [Machine.updatePlan] using ht.count, ?_, ?_⟩
    · simp only [State.mapPlans_rpt, Option.isSome_some, if_true, Machine.updatePlan, List.pairwise_map]
      refine ht.ascending.imp fun {a b} hab => ?_
      split <;> split <;> simp_all
    · intro x hx
      rcases hmem x (by simpa using hx) with rfl | hx
      · exact hc
      · exact ht.entries x hx
  | none =>
    have hnew : ∀ q ∈ t.rpt.plans, q.vehicle ≠ p.vehicle := by
      simpa [findPlan, hv] using hf
    refine ⟨?_, ?_, ?_⟩
    · have := room (by simp [hf])
      simpa [insertPlan, (insertBy_perm _ _ _).length_eq] using this
    · simpa using insertPlan_ascending ht.ascending hnew
    · intro x hx
      rcases List.mem_cons.mp ((insertBy_perm _ p t.rpt.plans).mem_iff.mp (by simpa [insertPlan] using hx)) with rfl | hx
      · exact hc
      · exact ht.entries x hx

theorem Kept.requestPlanLoad {v dep energy : Nat} {a b : Bool} (hv : v < 65536) (h : Kept s t) :
    Kept s (requestPlanLoad v dep energy a b t).1 := by
  unfold Machine.requestPlanLoad
  dsimp only
  split
  · exact h
  · split
    · exact h
    · split
      · exact h
      · next hv' hd hroom =>
        dsimp only
        refine Kept.checkDueOf (h.loadPlan rfl (fun ht => loadedPlan_consistent _ _ (fun p hp => ?_) (by omega) (by omega)) ?_)
        · exact ht.entries p (mem_findPlan hp).1
        · intro hn
          by_contra hlen
          exact hroom ⟨hn, by omega⟩

theorem Kept.requestPlanDelete {v : Nat} (h : Kept s t) : Kept s (requestPlanDelete v t).1 := by
  unfold Machine.requestPlanDelete
  split
  · exact h
  · refine h.trans ⟨rfl, fun ht => ⟨?_, ht.ascending.filter _, fun p hp => ht.entries p (List.mem_of_mem_filter hp)⟩⟩
    exact (List.length_filter_le _ _).trans ht.count

theorem Kept.requestLockout {v : Nat} (h : Kept s t) : Kept s (requestLockout v t).1 := by
  unfold Machine.requestLockout
  split
  · exact h
  · dsimp only
    exact Kept.runPass (h.updatePlan fun p => .withHold p _ _ _ (by simp))

theorem Kept.requestHold {v : Nat} (h : Kept s t) : Kept s (requestHold v t).1 := by
  unfold Machine.requestHold
  split
  · exact h
  · dsimp only
    split
    · exact h.updatePlan fun p => ⟨rfl, fun hp => ⟨hp.vehicle_range, hp.departure_range, hp.energy_range, hp.source_present⟩⟩
    · exact h.updatePlan fun p => .withHold p _ _ _ (by simp)

theorem Kept.requestHoldClear {v : Nat} (h : Kept s t) : Kept s (requestHoldClear v t).1 := by
  unfold Machine.requestHoldClear
  split
  · exact h
  · exact h.updatePlan fun p => .withHold p _ _ _ (by simp)

theorem Kept.requestTimeSet {n : Nat} (h : Kept s t) : Kept s (requestTimeSet n t).1 := by
  unfold Machine.requestTimeSet
  split
  · exact h
  · split
    · exact h
    · exact h.drawn.setClock

theorem Kept.requestTimeTrim {d : Int} (h : Kept s t) : Kept s (requestTimeTrim d t).1 := by
  unfold Machine.requestTimeTrim
  split
  · exact h
  · split
    · exact h
    · exact h.drawn.trimClock

theorem Kept.requestHeadroomLoad {first : Nat} {daily : Bool} {l : List Nat} (h : Kept s t) :
    Kept s (requestHeadroomLoad first daily l t).1 := by
  unfold Machine.requestHeadroomLoad
  split
  · exact h
  · dsimp only
    exact Kept.runPass (Kept.settleExperm h.withSlu)

theorem Kept.requestHeadroomOverride {v e : Nat} (h : Kept s t) : Kept s (requestHeadroomOverride v e t).1 := by
  unfold Machine.requestHeadroomOverride
  split
  · exact h
  · split
    · exact h
    · dsimp only
      exact Kept.runPass h.withSlu

theorem Kept.requestCall {id start stop target m : Nat} (h : Kept s t) : Kept s (requestCall id start stop target m t).1 := by
  unfold Machine.requestCall
  split
  · exact h
  · dsimp only
    split
    · exact h
    · dsimp only
      split
      · exact Kept.startFirst (Kept.raiseBoth h.mapEvq)
      · exact Kept.raiseBoth h.mapEvq

theorem Kept.requestRevise {id target stop : Nat} (h : Kept s t) : Kept s (requestRevise id target stop t).1 := by
  refine Kept.takeAfterRequest ?_
  unfold reviseNamed
  split
  · exact h
  · split
    · exact h
    · exact Kept.raiseBoth h.mapEvq

theorem Kept.requestCancel {id : Nat} (h : Kept s t) : Kept s (requestCancel id t).1 := by
  refine Kept.takeAfterRequest ?_
  unfold cancelNamed
  split
  · exact h
  · split
    · exact Kept.raiseBoth h.mapEvq
    · exact h.endActive

theorem Kept.requestOffer {start stop : Nat} (h : Kept s t) : Kept s (requestOffer start stop t).1 := by
  unfold Machine.requestOffer
  dsimp only
  split
  · exact h
  · split
    · exact h
    · split <;> exact h

theorem Kept.requestResult {id first : Nat} (h : Kept s t) : Kept s (requestResult id first t).1 := by
  unfold Machine.requestResult
  split
  · exact h
  · exact h.same rfl rfl

theorem Kept.requestPlanOne {v : Nat} (h : Kept s t) : Kept s (requestPlanOne v t).1 := by
  unfold Machine.requestPlanOne
  split <;> exact h

theorem Kept.requestParameterSet {id v : Nat} (h : Kept s t) : Kept s (requestParameterSet id v t).1 := by
  unfold Machine.requestParameterSet
  split
  · exact h
  · unfold writeParameter
    dsimp only
    split <;> exact h.same rfl rfl

theorem Kept.requestParameterQuery {id : Nat} (h : Kept s t) : Kept s (requestParameterQuery id t).1 := by
  unfold Machine.requestParameterQuery
  split
  · exact h
  · split <;> exact h

theorem Kept.requestRotationSet {y : Bool} {l : List Nat} (h : Kept s t) : Kept s (requestRotationSet y l t).1 := by
  unfold Machine.requestRotationSet
  split
  · exact h
  · split
    · exact h
    · split <;> exact h.same rfl rfl

/-- A request naming a dock keeps the table when its act does (R23). -/
theorem Kept.onDock {a : Nat} {act : Dock → State → State × Answer} (hact : ∀ d, Kept s (act d t).1) (h : Kept s t) :
    Kept s (onDock a act t).1 := by
  unfold Machine.onDock
  split
  · exact h
  · exact hact _

theorem Kept.requestGroupSet {a g : Nat} (h : Kept s t) : Kept s (requestGroupSet a g t).1 := h.onDock fun _ => h.modifyDock
theorem Kept.requestDockAuto {a : Nat} (h : Kept s t) : Kept s (requestDockAuto a t).1 := h.onDock fun _ => h.modifyDock

theorem Kept.requestDockManual {a : Nat} {v : Int} (h : Kept s t) : Kept s (requestDockManual a v t).1 := by
  refine h.onDock fun d => ?_
  dsimp only
  split
  · exact h.modifyDock
  · exact h

theorem Kept.requestDockEnable {a : Nat} (h : Kept s t) : Kept s (requestDockEnable a t).1 := by
  refine h.onDock fun d => ?_
  split
  · exact h.modifyDock
  · exact h

theorem Kept.requestDockDisable {a : Nat} (h : Kept s t) : Kept s (requestDockDisable a t).1 := by
  refine h.onDock fun d => ?_
  split
  · exact h
  · exact h.disableDock

theorem Kept.requestDockClear {a : Nat} (h : Kept s t) : Kept s (requestDockClear a t).1 := by
  refine h.onDock fun d => ?_
  dsimp only
  split
  · split
    · exact h.leaveFaulted
    · exact h.modifyDock
    · exact h
  · exact h

theorem Kept.requestEchoTest {a n : Nat} (h : Kept s t) : Kept s (requestEchoTest a n t).1 := by
  refine h.onDock fun d => ?_
  split
  · exact h
  · split
    · exact h
    · split
      · exact h
      · split
        · exact h
        · split
          · exact h
          · exact h.mapDnc

theorem Kept.requestDockQuery {a : Nat} (h : Kept s t) : Kept s (requestDockQuery a t).1 := by
  unfold Machine.requestDockQuery
  split
  · exact h
  · exact h.onDock fun _ => h

/-- The vehicle a PLAN LOAD names fits its field of two bytes (R191). -/
def LoadFits : Request → Prop
  | .planLoad v _ _ _ _ => v < 65536
  | _ => True

/-- The owner of a request keeps the table. -/
theorem Kept.runRequest {l : Link} {q : Request} (hq : LoadFits q) (h : Kept s t) : Kept s (runRequest l q t).1 := by
  cases q with
  | timeSet => exact h.requestTimeSet
  | timeTrim => exact h.requestTimeTrim
  | headroomLoad => exact h.requestHeadroomLoad
  | headroomOverride => exact h.requestHeadroomOverride
  | tripHoldoffSet => exact h.withSlu
  | dispatchCall => exact h.requestCall
  | dispatchRevise => exact h.requestRevise
  | dispatchCancel => exact h.requestCancel
  | offerQuery => exact h.requestOffer
  | resultQuery => exact h.requestResult
  | planLoad => exact h.requestPlanLoad hq
  | planDelete => exact h.requestPlanDelete
  | planQuery =>
    unfold Machine.runRequest
    dsimp only
    split
    · exact h.requestPlanOne
    · split <;> exact h
  | holdSet =>
    unfold Machine.runRequest
    dsimp only
    split
    · exact h.requestLockout
    · split
      · exact h.requestHold
      · exact h
  | holdClear => exact h.requestHoldClear
  | parameterSet => exact h.requestParameterSet
  | parameterQuery => exact h.requestParameterQuery
  | rotationSet => exact h.requestRotationSet
  | groupSet => exact h.requestGroupSet
  | dockManual => exact h.requestDockManual
  | dockAuto => exact h.requestDockAuto
  | dockEnable => exact h.requestDockEnable
  | dockDisable => exact h.requestDockDisable
  | dockClear => exact h.requestDockClear
  | netRestart => exact h.restartNet
  | echoTest => exact h.requestEchoTest
  | echoQuery => exact h
  | queueQuery =>
    unfold Machine.runRequest
    dsimp only
    split
    · exact h
    · split <;> exact h
  | siteQuery => exact h
  | clockQuery => exact h
  | linkQuery => exact h.mapPort
  | dockQuery => exact h.requestDockQuery

theorem ofBytes_lt (l : List Byte) : ofBytes l < 256 ^ l.length := by
  induction l with
  | nil => simp [ofBytes]
  | cons b l ih =>
    have := b.isLt
    simp only [ofBytes, List.length_cons, pow_succ]
    omega

theorem bodyField_lt (body : List Byte) (offset n : Nat) : bodyField body offset n < 256 ^ n :=
  (ofBytes_lt _).trans_le (Nat.pow_le_pow_right (by decide) (by simp))

/-- A request read from a body fits its fields. -/
theorem loadFits_of_readRequest {l : Link} {kind : Byte} {body : List Byte} {q : Request} (h : readRequest l kind body = .ok q) :
    LoadFits q := by
  unfold readRequest at h
  split at h
  · cases h
  · next k _ =>
    split at h
    · cases h
    · split at h
      · cases h
      · cases h
        cases k with
        | planLoad => exact bodyField_lt body 0 2
        | _ => trivial

/-! ### The link ports (R182, R184) -/

theorem Kept.answerRequest {l : Link} {f : LinkFrame} (h : Kept s t) : Kept s (answerRequest l f t).1 := by
  unfold Machine.answerRequest
  split
  · exact h
  · next hq => exact h.runRequest (loadFits_of_readRequest hq)

theorem Kept.takeFirst {l : Link} (h : Kept s t) : Kept s (takeFirst l t) := by
  unfold Machine.takeFirst
  split
  · split
    · exact h
    · exact h.answerRequest.mapPort
  · exact h

theorem Kept.takeGoodFrame {l : Link} {f : LinkFrame} (h : Kept s t) : Kept s (takeGoodFrame l f t) := by
  unfold Machine.takeGoodFrame
  split
  · exact h.mapPort.takeFirst.mapPort
  · exact h.mapPort

theorem Kept.frameSent {l : Link} (h : Kept s t) : Kept s (frameSent l t) := by
  unfold Machine.frameSent
  split
  · exact h
  · exact h.mapPort.takeFirst.mapPort
  · exact h.mapPort

theorem Kept.answered {l : Link} {f : LinkFrame} {owner : State → State × Answer} (howner : ∀ u, Kept u (owner u).1) (h : Kept s t) :
    Kept s (answered l f owner t) := (h.mapPort.trans (howner _)).mapPort

/-! ### Frames of the Dock Net (R165, R167) -/

theorem Kept.receiveFrame {f : NetWire} (h : Kept s t) : Kept s (receiveFrame f t) := by
  unfold Machine.receiveFrame handFrame
  split
  · exact h
  · split
    · split
      · split
        · exact h.receiveAccepted.takeStatus
        · exact h.receiveAccepted
      · exact h.receiveAccepted.mapDnc
    · exact h.receiveForeign

theorem Kept.reportEnd {x : Transmission} {acked : Bool} (h : Kept s t) : Kept s (reportEnd x acked t) := by
  unfold Machine.reportEnd
  split
  · exact h
  · exact h.setpointEnded
  · split
    · exact h
    · exact h.mapDnc

theorem Kept.endAttempt {how : AttemptEnd} (h : Kept s t) : Kept s (endAttempt how t) := by
  unfold Machine.endAttempt
  split
  · exact h
  · split
    · exact h.mapDnc.settleNet.mapDnc
    · exact h.mapDnc.settleNet.mapDnc.reportEnd

/-! ### Commands and steps -/

/-- A request row is its request, taken by its owner on its link (log 9). -/
theorem exec_request {c : Instr} {lq : Link × Request} (h : requestOf c = some lq) (s : State) :
    exec c s = .next (answered lq.1 lq.2.frame (runRequest lq.1 lq.2) s) := by
  cases c <;> cases h <;> rfl

/-- A PLAN LOAD that the wire can carry fits its field. -/
theorem loadFits_of_wellFormed {c : Instr} {lq : Link × Request} (h : requestOf c = some lq) (hc : c.wellFormed = true) :
    LoadFits lq.2 := by
  cases c with
  | planLoad =>
    cases h
    simp only [Instr.wellFormed, fitsBytes, Bool.and_eq_true, decide_eq_true_eq] at hc
    exact hc.1.1
  | _ => cases h <;> trivial

/-- A command that is no request keeps the table. -/
theorem exec_kept_of_noRequest {c : Instr} (hq : requestOf c = none) (s : State) : ∃ t, exec c s = .next t ∧ Kept s t := by
  have h := Kept.refl s
  cases c with
  | deviceReset => exact ⟨_, rfl, rfl, fun _ => ⟨Nat.zero_le _, List.Pairwise.nil, nofun⟩⟩
  | status => exact ⟨_, rfl, h.receiveFrame⟩
  | echoReply => exact ⟨_, rfl, h.receiveFrame⟩
  | foreignFrame =>
    refine ⟨_, rfl, ?_⟩
    split
    · exact h
    · exact h.receiveForeign
  | frameInError =>
    refine ⟨_, rfl, ?_⟩
    split
    · exact h
    · exact h.receiveInError
  | transmitStart => exact ⟨_, rfl, h.mapDnc⟩
  | arbitrationLost => exact ⟨_, rfl, h.mapDnc⟩
  | transmitAttemptEnd => exact ⟨_, rfl, h.endAttempt⟩
  | recoveryTimerExpiry => exact ⟨_, rfl, h.expireRecovery⟩
  | echoWaitExpiry => exact ⟨_, rfl, h.expireEchoWait⟩
  | reportTimeout =>
    refine ⟨_, rfl, ?_⟩
    split
    · exact h.reportTimeout
    · exact h
  | silentGraceExpiry =>
    refine ⟨_, rfl, ?_⟩
    split
    · exact h.silentGrace
    · exact h
  | allocationTimerExpiry => exact ⟨_, rfl, h.expireAllocation⟩
  | tripAssertion => exact ⟨_, rfl, h.assertTrip⟩
  | tripRelease => exact ⟨_, rfl, h.releaseTrip⟩
  | holdoffExpiry => exact ⟨_, rfl, h.expireHoldoff⟩
  | uptimeSecond => exact ⟨_, rfl, h.takeUptimeSecond⟩
  | depotSecond => exact ⟨_, rfl, h.takeDepotSecond⟩
  | dayRollover =>
    refine ⟨_, rfl, ?_⟩
    split
    · exact h.rollover
    · exact h
  | planDue => exact ⟨_, rfl, h.checkDueOf⟩
  | eventStart => exact ⟨_, rfl, h.startIfReached⟩
  | eventEnd => exact ⟨_, rfl, h.endIfReached⟩
  | settlementBoundary => exact ⟨_, rfl, h.settlementIfReached⟩
  | halfHourBoundary =>
    refine ⟨_, rfl, ?_⟩
    split
    · exact h.runPass
    · exact h
  | overrideExpiry => exact ⟨_, rfl, h.overrideIfReached⟩
  | intervalAExpiry => exact ⟨_, rfl, h.expireIntervalA⟩
  | intervalBExpiry => exact ⟨_, rfl, h.expireIntervalB⟩
  | meterExportPulse => exact ⟨_, rfl, h.same rfl rfl⟩
  | meterImportPulse => exact ⟨_, rfl, h.same rfl rfl⟩
  | goodFrame => exact ⟨_, rfl, h.takeGoodFrame⟩
  | badFrame => exact ⟨_, rfl, h.mapPort⟩
  | linkGapTimeout => exact ⟨_, rfl, h.mapPort⟩
  | quietTimerExpiry => exact ⟨_, rfl, h.mapPort⟩
  | linkFrameSent => exact ⟨_, rfl, h.frameSent⟩
  | unknownKindRequest =>
    refine ⟨_, rfl, ?_⟩
    split
    · exact h.answered Kept.refl
    · exact h
  | syncByteBeginsFrame => exact ⟨_, rfl, h.mapPort⟩
  | _ => cases hq

/-- Every command the wire can carry keeps the table. -/
theorem exec_kept {c : Instr} (hc : c.wellFormed = true) (s : State) : ∃ t, exec c s = .next t ∧ Kept s t := by
  cases hq : requestOf c with
  | some lq =>
    exact ⟨_, exec_request hq s, (Kept.refl s).answered fun u => (Kept.refl u).runRequest (loadFits_of_wellFormed hq hc)⟩
  | none => exact exec_kept_of_noRequest hq s

/-- Settles O6: a step takes the front command, which the wire can carry, or is one period of the time base, and both keep the table. -/
theorem stepKeepsThePlanTableSound : Obligations.StepKeepsThePlanTableSound := by
  intro s t hfit hok hstep
  unfold step at hstep
  split at hstep
  · next c rest hpend =>
    have hc : c.wellFormed = true := hfit c (by simp [hpend])
    obtain ⟨u, hu, hkept⟩ := exec_kept hc { s with pending := rest }
    cases hstep.symm.trans hu
    refine ⟨fun i hi => hfit i ?_, hkept.2 (plansOk_congr (s := s) rfl hok)⟩
    rw [hkept.1] at hi
    exact hpend ▸ List.mem_cons_of_mem _ hi
  · cases hstep
    have hkept := (Kept.refl s).takePeriod
    exact ⟨fun i hi => hfit i (hkept.1 ▸ hi), hkept.2 hok⟩

end Sys2Proof.RoutePlans
end

section
/-! A request row in the words of the statements (log 9): the state it is taken in and the answer it leaves; and the entry of one vehicle in a
table in id order (R29). -/

namespace Sys2Proof.RoutePlans

open Sys2Proof Sys2Proof.Machine

variable (s : State)

/-! ### Request rows -/

theorem asked_request {c : Instr} {lq : Link × Request} (h : requestOf c = some lq) : s.asked c = s.mapPort lq.1 (Port.ask lq.2.frame) := by
  simp only [State.asked, h, State.holdingRequest]
  congr 1
  funext p
  unfold Port.ask
  cases hp : p.holding with
  | nil => rfl
  | cons a l => cases p; cases hp; rfl

theorem answering_eq (l : Link) (kind : Byte) (body : List Byte) :
    s.answering l kind body = s.mapPort l (Port.reply { kind := kind, body := body }) := by
  unfold State.answering
  dsimp only
  congr 1
  funext p
  unfold Port.reply
  rcases hp : p.holding with _ | ⟨⟨f, a⟩, rest⟩
  · rfl
  · cases a with
    | some a => rfl
    | none => cases hs : p.sending <;> simp [Port.setAnswer, Port.serve, hp, hs]

/-- A request row in full: its owner acts on the state it is taken in, and its answer is formed on the link. -/
theorem exec_row {c : Instr} {l : Link} {q : Request} (h : requestOf c = some (l, q)) :
    exec c s = .next ((runRequest l q (s.asked c)).1.answering l (q.kind.code + 0x80) (runRequest l q (s.asked c)).2.body) := by
  rw [exec_request h, asked_request s h, answering_eq]
  rfl

@[simp] theorem asked_rpt (c : Instr) : (s.asked c).rpt = s.rpt := by
  unfold State.asked State.holdingRequest; split <;> simp
@[simp] theorem asked_evq (c : Instr) : (s.asked c).evq = s.evq := by
  unfold State.asked State.holdingRequest; split <;> simp
@[simp] theorem asked_dck (c : Instr) : (s.asked c).dck = s.dck := by
  unfold State.asked State.holdingRequest; split <;> simp
@[simp] theorem asked_dock (c : Instr) (d : Dock) : (s.asked c).dock d = s.dock d := by
  unfold State.asked State.holdingRequest; split <;> simp

theorem le16_eq (v : Nat) : encodeNat 2 v = le16 v := rfl

theorem le32_eq (v : Nat) : encodeNat 4 v = le32 v := by
  simp [encodeNat, le32, Nat.div_div_eq_div_mul]

theorem encodePlan_eq (p : Plan) : encodePlan p = planEntry p := by
  have hs : p.state.code = (match p.state with | .waiting => 0 | .due => 1 | .departed => 2) := by cases p.state <;> rfl
  have hh : p.hold.code = (match p.hold with | .none => 0 | .hold => 1 | .lockout => 2) := by cases p.hold <;> rfl
  have ho : holdSourceCode p.source = (match p.source with | some .manual => 0 | some .auto => 1 | none => 255) := by
    rcases p.source with _ | _ | _ <;> rfl
  simp only [encodePlan, planEntry, le16_eq, le32_eq, hs, hh, ho, encodeFlag, flagByte, List.append_assoc, List.cons_append, List.nil_append]
  <;> rfl

/-! ### One vehicle's entry -/

variable {plans : List Plan} {v : Nat} {p : Plan}

/-- In a table in id order a vehicle has one entry (R29). -/
theorem entry_unique (h : plans.Pairwise fun p q => p.vehicle < q.vehicle) {q : Plan} (hp : p ∈ plans) (hq : q ∈ plans)
    (hv : q.vehicle = p.vehicle) : q = p := by
  by_contra hne
  rcases (List.pairwise_iff_getElem.mp h) with h'
  obtain ⟨i, hi, rfl⟩ := List.mem_iff_getElem.mp hp
  obtain ⟨j, hj, rfl⟩ := List.mem_iff_getElem.mp hq
  rcases Nat.lt_trichotomy i j with hij | rfl | hij
  · have := h' i j hi hj hij
    omega
  · exact hne rfl
  · have := h' j i hj hi hij
    omega

theorem findPlan_of_mem (h : plans.Pairwise fun p q => p.vehicle < q.vehicle) (hp : p ∈ plans) (hv : p.vehicle = v) :
    findPlan plans v = some p := by
  cases hf : findPlan plans v with
  | none =>
    have := List.find?_eq_none.mp hf p hp
    simp [hv] at this
  | some q =>
    obtain ⟨hq, hqv⟩ := mem_findPlan hf
    rw [entry_unique h hp hq (by omega)]

theorem findPlan_eq_none (h : v ∉ plans.map Plan.vehicle) : findPlan plans v = none := by
  simpa [findPlan] using h

theorem mem_vehicles_of_findPlan (h : findPlan plans v = none) : ∀ q ∈ plans, q.vehicle ≠ v := by
  simpa [findPlan] using h

/-- To change a vehicle's entry is to put the changed entry in its place. -/
theorem updatePlan_of_mem (h : plans.Pairwise fun p q => p.vehicle < q.vehicle) (hp : p ∈ plans) (hv : p.vehicle = v) (f : Plan → Plan) :
    updatePlan v f plans = plans.map fun q => if q.vehicle = v then f p else q := by
  refine List.map_congr_left fun q hq => ?_
  split
  · next hqv => rw [entry_unique h hp hq (by omega)]
  · rfl

/-- The entry found after one has been put in its place. -/
theorem findPlan_put {p' : Plan} (hp : p ∈ plans) (hv : p.vehicle = v) (hv' : p'.vehicle = v) :
    findPlan (plans.map fun q => if q.vehicle = v then p' else q) v = some p' := by
  induction plans with
  | nil => cases hp
  | cons a l ih =>
    by_cases ha : a.vehicle = v
    · simp [findPlan, ha, hv']
    · have hl : p ∈ l := (List.mem_cons.mp hp).resolve_left fun h => ha (h ▸ hv)
      simpa [findPlan, ha] using ih hl

end Sys2Proof.RoutePlans

end

section
/-! PLAN LOAD, PLAN DELETE, HOLD SET and HOLD CLEAR (R31 to R39). -/

namespace Sys2Proof.RoutePlans

open Sys2Proof Sys2Proof.Machine

variable {s : State} {v : Nat}

theorem filter_below_eq_nil {l : List Plan} (h : ∀ q ∈ l, v ≤ q.vehicle) : (l.filter fun q => decide (q.vehicle < v)) = [] := by
  simpa [List.filter_eq_nil_iff] using h

theorem filter_above_eq_self {l : List Plan} (h : ∀ q ∈ l, v < q.vehicle) : (l.filter fun q => decide (v < q.vehicle)) = l := by
  simpa [List.filter_eq_self] using h

/-- A vehicle's entry replaced stands between the entries of lower and of higher ids (R29, R31). -/
theorem updatePlan_const {plans : List Plan} (h : plans.Pairwise fun p q => p.vehicle < q.vehicle) {q : Plan} (hq : q ∈ plans)
    (hqv : q.vehicle = v) (p : Plan) :
    updatePlan v (fun _ => p) plans =
      (plans.filter fun q => decide (q.vehicle < v)) ++ p :: plans.filter fun q => decide (v < q.vehicle) := by
  induction plans with
  | nil => cases hq
  | cons a l ih =>
    obtain ⟨ha, hl⟩ := List.pairwise_cons.mp h
    rcases List.mem_cons.mp hq with rfl | hmem
    · have habove : ∀ x ∈ l, v < x.vehicle := fun x hx => hqv ▸ ha x hx
      have hrest : l.map (fun x => if x.vehicle = v then p else x) = l :=
        (List.map_congr_left fun x hx => if_neg (habove x hx).ne').trans (List.map_id' l)
      simp [updatePlan, hqv, filter_below_eq_nil fun x hx => (habove x hx).le, filter_above_eq_self habove, hrest]
    · have hlt : a.vehicle < v := hqv ▸ ha q hmem
      have := ih hl hmem
      simpa [updatePlan, hlt, hlt.ne, hlt.not_gt] using this

/-- A new entry stands between the entries of lower and of higher ids (R29, R31). -/
theorem insertPlan_eq {plans : List Plan} (h : plans.Pairwise fun p q => p.vehicle < q.vehicle) {p : Plan} (hv : p.vehicle = v)
    (hn : ∀ q ∈ plans, q.vehicle ≠ v) :
    insertPlan p plans = (plans.filter fun q => decide (q.vehicle < v)) ++ p :: plans.filter fun q => decide (v < q.vehicle) := by
  induction plans with
  | nil => rfl
  | cons a l ih =>
    obtain ⟨ha, hl⟩ := List.pairwise_cons.mp h
    have ih := ih hl fun q hq => hn q (List.mem_cons_of_mem _ hq)
    rcases Nat.lt_or_gt_of_ne (hn a List.mem_cons_self) with hlt | hgt
    · simpa [insertPlan, insertBy, hv, hlt, hlt.not_gt, hlt.not_ge] using ih
    · have habove : ∀ x ∈ l, v < x.vehicle := fun x hx => lt_trans hgt (ha x hx)
      simp [insertPlan, insertBy, hv, hgt, hgt.le, hgt.not_gt, filter_below_eq_nil fun x hx => (habove x hx).le, filter_above_eq_self habove]

/-- The DUE check of the entry of one vehicle among entries of other vehicles (R32). -/
theorem updatePlan_between {low high : List Plan} {p : Plan} (hv : p.vehicle = v) (hl : ∀ q ∈ low, q.vehicle ≠ v)
    (hh : ∀ q ∈ high, q.vehicle ≠ v) (f : Plan → Plan) : updatePlan v f (low ++ p :: high) = low ++ f p :: high := by
  have same : ∀ l : List Plan, (∀ q ∈ l, q.vehicle ≠ v) → updatePlan v f l = l := fun l h => by
    induction l with
    | nil => rfl
    | cons a l ih =>
      have := ih fun q hq => h q (List.mem_cons_of_mem _ hq)
      simpa [updatePlan, h a List.mem_cons_self] using this
  have h1 := same low hl
  have h2 := same high hh
  simp only [updatePlan] at h1 h2 ⊢
  simp [h1, h2, hv]

/-- The entry found among entries of other vehicles. -/
theorem findPlan_between {low high : List Plan} {p : Plan} (hv : p.vehicle = v) (hl : ∀ q ∈ low, q.vehicle ≠ v) :
    findPlan (low ++ p :: high) v = some p := by
  have : low.find? (fun q => decide (q.vehicle = v)) = none := by simpa using hl
  simp [findPlan, List.find?_append, this, hv]

/-- An entry as the DUE check leaves it, which is made only while the clock is RUNNING (R32). -/
def judgedDue (s : State) (p : Plan) : Plan := if s.dck.running then dueAt s.rpt.readyLead s.dck.depotTime p else p

theorem judgedDue_vehicle (s : State) (p : Plan) : (judgedDue s p).vehicle = p.vehicle := by
  unfold judgedDue
  split
  · exact (dueAt_keeps _ _ p).1
  · rfl

/-- The DUE check of the vehicle of one entry, among entries of other vehicles. -/
theorem checkDueOf_between {low high : List Plan} {p : Plan} (hv : p.vehicle = v) (hl : ∀ q ∈ low, q.vehicle ≠ v)
    (hh : ∀ q ∈ high, q.vehicle ≠ v) :
    checkDueOf v (s.mapPlans fun _ => low ++ p :: high) = s.mapPlans fun _ => low ++ judgedDue s p :: high := by
  have h := updatePlan_between hv hl hh (dueAt s.rpt.readyLead s.dck.depotTime)
  unfold checkDueOf judgedDue
  by_cases hr : s.dck.running = true
  · simp only [hr, if_true, State.mapPlans, h]
  · simp only [State.mapPlans_dck, hr, if_false, Bool.false_eq_true]

/-- An accepted PLAN LOAD in full: the entry stands between those of lower and of higher ids, judged by the DUE check (R31, R32). -/
theorem requestPlanLoad_accepted {dep energy : Nat} (a b : Bool) (hok : s.PlansOk) (hv : ¬(v = 0 ∨ v = 65535))
    (hd : ¬depotTimeMax < dep) (hroom : ¬((findPlan s.rpt.plans v).isNone = true ∧ 64 ≤ s.rpt.plans.length)) {p : Plan}
    (hp : p = judgedDue s (loadedPlan (findPlan s.rpt.plans v) v dep (min energy 4000) a b)) :
    requestPlanLoad v dep energy a b s =
      (s.mapPlans fun _ => (s.rpt.plans.filter fun q => decide (q.vehicle < v)) ++ p :: s.rpt.plans.filter fun q => decide (v < q.vehicle),
        .doneOrClamped (decide (4000 < energy)) (encodePlan p)) := by
  generalize hl : loadedPlan (findPlan s.rpt.plans v) v dep (min energy 4000) a b = loaded at hp
  have hlv : loaded.vehicle = v := by rw [← hl]; rfl
  have hlow : ∀ q ∈ s.rpt.plans.filter (fun q => decide (q.vehicle < v)), q.vehicle ≠ v := fun q hq => by
    have := of_decide_eq_true (List.mem_filter.mp hq).2
    omega
  have hhigh : ∀ q ∈ s.rpt.plans.filter (fun q => decide (v < q.vehicle)), q.vehicle ≠ v := fun q hq => by
    have := of_decide_eq_true (List.mem_filter.mp hq).2
    omega
  have hplans : (s.mapPlans fun plans => if (findPlan s.rpt.plans v).isSome then updatePlan v (fun _ => loaded) plans
      else insertPlan loaded plans) = s.mapPlans fun _ =>
      (s.rpt.plans.filter fun q => decide (q.vehicle < v)) ++ loaded :: s.rpt.plans.filter fun q => decide (v < q.vehicle) := by
    unfold State.mapPlans
    cases hf : findPlan s.rpt.plans v with
    | some q => simp [updatePlan_const hok.ascending (mem_findPlan hf).1 (mem_findPlan hf).2]
    | none => simp [insertPlan_eq hok.ascending hlv (mem_vehicles_of_findPlan hf)]
  have hfind : findPlan ((s.rpt.plans.filter fun q => decide (q.vehicle < v)) ++ p :: s.rpt.plans.filter fun q => decide (v < q.vehicle)) v =
      some p := findPlan_between (by rw [hp, judgedDue_vehicle, hlv]) hlow
  unfold requestPlanLoad
  simp only [if_neg hv, if_neg hd, if_neg hroom, hl, hplans, checkDueOf_between hlv hlow hhigh, ← hp, State.mapPlans_rpt, hfind,
    Option.getD_some]

/-- The entry a PLAN LOAD leaves, judged by the DUE check, with its plan state in words (R31, R32). -/
theorem judgedDue_loadedPlan (old : Option Plan) (dep energy : Nat) (a b : Bool) :
    judgedDue s (loadedPlan old v dep energy a b) = { loadedPlan old v dep energy a b with
      state := if s.dck.running = true ∧ dep - s.rpt.readyLead ≤ s.dck.depotTime then .due else .waiting } := by
  by_cases hr : s.dck.running = true <;> by_cases hp : dep - s.rpt.readyLead ≤ s.dck.depotTime <;>
    simp [judgedDue, dueAt, duePoint, loadedPlan, hr, hp]

/-- Settles O55: the three refusals, and the accepted load whose entry is put in words. -/
theorem planLoadEntersOrReplacesThePlan : Obligations.PlanLoadEntersOrReplacesThePlan := by
  intro v dep energy a b s hok old load k
  have hrow : load = .next ((requestPlanLoad v dep energy a b k).1.answering .fleet 0xB0 (requestPlanLoad v dep energy a b k).2.body) :=
    exec_row (c := .planLoad v dep energy a b) (l := .fleet) (q := .planLoad v dep energy a b) s rfl
  have hk : k.rpt = s.rpt := asked_rpt s _
  have hkd : k.dck = s.dck := asked_dck s _
  have hold : findPlan k.rpt.plans v = old := by rw [hk]; rfl
  have hkok : k.PlansOk := plansOk_congr (by rw [hk]) hok
  split
  · next hv => rw [hrow]; simp only [requestPlanLoad, if_pos hv]; rfl
  next hv =>
  split
  · next hd => rw [hrow]; simp only [requestPlanLoad, if_neg hv, depotTimeMax, if_pos hd]; rfl
  next hd =>
  have hfull : (findPlan k.rpt.plans v).isNone = true ∧ 64 ≤ k.rpt.plans.length ↔ old = none ∧ 64 ≤ s.rpt.plans.length := by
    rw [hold, hk, Option.isNone_iff_eq_none]
  split
  · next hroom =>
    rw [hrow]
    simp only [requestPlanLoad, if_neg hv, depotTimeMax, if_neg hd, if_pos (hfull.mpr hroom)]
    rfl
  · next hroom =>
    intro p
    have hp : p = judgedDue k (loadedPlan (findPlan k.rpt.plans v) v dep (min energy 4000) a b) := by
      rw [judgedDue_loadedPlan, hold, hk, hkd]
      rfl
    rw [hrow, requestPlanLoad_accepted a b hkok hv hd (mt hfull.mp hroom) hp, encodePlan_eq, ← hk]
    by_cases he : 4000 < energy <;> simp [Answer.doneOrClamped, Answer.body, he, State.mapPlans, hk]

/-- Where a vehicle has no entry, the four requests on entries are refused alike (R35, R37 to R39). -/
theorem entryRequests_refused (h : findPlan s.rpt.plans v = none) :
    requestPlanDelete v s = refuse .noSuchVehicle s ∧ requestLockout v s = refuse .noSuchVehicle s ∧
      requestHold v s = refuse .noSuchVehicle s ∧ requestHoldClear v s = refuse .noSuchVehicle s := by
  simp [requestPlanDelete, requestLockout, requestHold, requestHoldClear, h]

section
variable {p : Plan} (hok : s.PlansOk) (hp : p ∈ s.rpt.plans) (hv : p.vehicle = v)
include hok hp hv

theorem requestPlanDelete_entry :
    requestPlanDelete v s = (s.mapPlans (List.filter fun q => decide (q.vehicle ≠ v)), .done []) := by
  simp [requestPlanDelete, findPlan_of_mem hok.ascending hp hv]

/-- The table with the entry of `p` changed is the table with the changed entry put in its place. -/
theorem mapPlans_put (f : Plan → Plan) :
    s.mapPlans (updatePlan v f) = s.mapPlans fun plans => plans.map fun q => if q.vehicle = v then f p else q := by
  simp only [State.mapPlans, updatePlan_of_mem hok.ascending hp hv f]

theorem requestHoldClear_entry : requestHoldClear v s =
    (s.mapPlans fun plans => plans.map fun q => if q.vehicle = v then { p with hold := .none, source := none, pendingHold := false } else q,
      .done []) := by
  simp only [requestHoldClear, findPlan_of_mem hok.ascending hp hv, mapPlans_put hok hp hv]

theorem requestLockout_entry : requestLockout v s =
    (runPass (s.mapPlans fun plans => plans.map fun q =>
      if q.vehicle = v then { p with hold := .lockout, source := none, pendingHold := false } else q), .done [2, 255, 0]) := by
  have hput := findPlan_put (p' := p.lockout) hp hv hv
  simp only [requestLockout, findPlan_of_mem hok.ascending hp hv, mapPlans_put hok hp hv, State.mapPlans_rpt, holdFields, hput]
  rfl

/-- HOLD SET with level HOLD: made pending while the vehicle exports in an ACTIVE event, taken at once otherwise (R38). -/
theorem requestHold_entry : requestHold v s =
    if holdsActive s.evq = true ∧ vehicleExports s v = true then
      (s.mapPlans fun plans => plans.map fun q => if q.vehicle = v then { p with pendingHold := true } else q,
        .done [p.hold.code, holdSourceCode p.source, 1])
    else (s.mapPlans fun plans => plans.map fun q => if q.vehicle = v then p.holdManual else q, .done [1, 0, 0]) := by
  have hwait := findPlan_put (p' := { p with pendingHold := true }) hp hv hv
  have hnow := findPlan_put (p' := p.holdManual) hp hv hv
  unfold requestHold
  rw [findPlan_of_mem hok.ascending hp hv]
  simp only [mapPlans_put hok hp hv]
  split
  · simp only [State.mapPlans_rpt, holdFields, hwait]
    rfl
  · simp only [State.mapPlans_rpt, holdFields, hnow]
    rfl

end

/-- Settles O56: the requests on an entry, refused where there is none, and on the one entry of the vehicle. -/
theorem planDeleteAndHoldRequestsActOnTheEntry : Obligations.PlanDeleteAndHoldRequestsActOnTheEntry := by
  intro v s
  have hdelete := exec_row (c := .planDelete v) (l := .fleet) (q := .planDelete v) s rfl
  have hclear := exec_row (c := .holdClear v) (l := .fleet) (q := .holdClear v) s rfl
  have hlockout := exec_row (c := .holdSetLockout v) (l := .fleet) (q := .holdSet v 2) s rfl
  have hhold := exec_row (c := .holdSetHold v) (l := .fleet) (q := .holdSet v 1) s rfl
  simp only [runRequest, if_true, OfNat.one_ne_ofNat, if_false] at hdelete hclear hlockout hhold
  rw [hdelete, hclear, hlockout, hhold]
  refine ⟨fun hnone => ?_, fun hok p hp hv => ?_⟩
  · have hf : ∀ c, findPlan (s.asked c).rpt.plans v = none := fun c => by rw [asked_rpt]; exact findPlan_eq_none hnone
    obtain ⟨hd, -, -, -⟩ := entryRequests_refused (hf (.planDelete v))
    obtain ⟨-, hl, -, -⟩ := entryRequests_refused (hf (.holdSetLockout v))
    obtain ⟨-, -, hh, -⟩ := entryRequests_refused (hf (.holdSetHold v))
    obtain ⟨-, -, -, hc⟩ := entryRequests_refused (hf (.holdClear v))
    rw [hd, hl, hh, hc]
    exact ⟨rfl, rfl, rfl, rfl⟩
  · have hok' : ∀ c, (s.asked c).PlansOk := fun c => plansOk_congr (by rw [asked_rpt]) hok
    have hp' : ∀ c, p ∈ (s.asked c).rpt.plans := fun c => by rwa [asked_rpt]
    intro put exporting
    have hput : ∀ c p', ((s.asked c).mapPlans fun plans => plans.map fun q => if q.vehicle = v then p' else q) = put c p' := fun c p' => by
      simp only [put, State.mapPlans, asked_rpt]
    refine ⟨?_, ?_, ?_, ?_⟩
    · rw [requestPlanDelete_entry (hok' _) (hp' _) hv, State.mapPlans, asked_rpt]
      rfl
    · rw [requestHoldClear_entry (hok' _) (hp' _) hv, hput]
      rfl
    · rw [requestLockout_entry (hok' _) (hp' _) hv, hput]
      dsimp only
      rfl
    · have hexp : (holdsActive (s.asked (.holdSetHold v)).evq = true ∧ vehicleExports (s.asked (.holdSetHold v)) v = true) ↔
          exporting = true := by
        simp only [asked_evq, vehicleExports, asked_dock, exporting, holdsActive, Bool.and_eq_true]
      rw [requestHold_entry (hok' _) (hp' _) hv]
      by_cases he : exporting = true
      · rw [if_pos (hexp.mpr he), if_pos he, hput]
        rfl
      · rw [if_neg (mt hexp.mp he), if_neg he, hput]
        rfl

end Sys2Proof.RoutePlans
end

section
/-! The moments and expiries that are commanded one by one (R32, R78, R121, R123, R159). -/

namespace Sys2Proof.RoutePlans

open Sys2Proof Sys2Proof.Machine

variable (s : State)

/-- A change of the entries a test selects gives the changed entries of those alone. -/
theorem filterMap_ite {α β : Type} (test : α → Bool) (g : α → β) (l : List α) :
    (l.filterMap fun a => if test a then some (g a) else none) = (l.filter test).map g := by
  induction l with
  | nil => rfl
  | cons a l ih => by_cases h : test a = true <;> simp [h, ih]

/-- Where the holds of the entries that a test selects change, with one cause: the table and the notices (R44). -/
theorem changeHolds_ite (test : Plan → Bool) (g : Plan → Plan) (cause : HoldCause) :
    let c : Plan → Option (Plan × HoldCause) := fun p => if test p then some (g p, cause) else none
    (changeHolds c s).rpt = { s.rpt with plans := s.rpt.plans.map fun p => if test p then g p else p } ∧
      (changeHolds c s).fleet = (s.rpt.plans.filter test).foldl (fun q p => q.raise (holdNotice cause (g p))) s.fleet := by
  intro c
  refine ⟨?_, ?_⟩
  · rw [changeHolds_rpt]
    have h : (s.rpt.plans.map fun p => ((c p).map Prod.fst).getD p) = s.rpt.plans.map fun p => if test p then g p else p :=
      List.map_congr_left fun p _ => by by_cases h : test p = true <;> simp [c, h]
    rw [h]
  · rw [changeHolds_fleet, filterMap_ite test (fun p => (g p, cause)), List.foldl_map]

theorem rolloverChange_eq : rolloverChange = fun p =>
    if decide (p.hold = .hold ∧ p.source = some .auto) then some ({ p with hold := .none, source := none }, .rollover) else none := by
  funext p
  simp [rolloverChange]

/-- A rollover in full, block by block, while the clock runs (R159). -/
theorem rollover_spec (hr : s.dck.running = true) :
    (rollover s).rpt = { s.rpt with plans := s.rpt.plans.map fun p =>
        if p.hold = .hold ∧ p.source = some .auto then { p with hold := .none, source := none } else p } ∧
      (∀ d : Dock, (rollover s).dock d = { s.dock d with dayThroughput := 0 }) ∧
      (rollover s).slu = { s.slu with
        tableValid := s.slu.tableValid && s.slu.daily, tripSeconds := 0
        experm := decide (s.slu.trip = .normal) && (s.slu.tableValid && s.slu.daily) } ∧
      (rollover s).fleet = (s.rpt.plans.filter fun p => decide (p.hold = .hold ∧ p.source = some .auto)).foldl
        (fun q p => q.raise (.hold p.vehicle .rollover .none none p.pendingHold)) s.fleet := by
  obtain ⟨hrpt, hfleet⟩ := changeHolds_ite s (fun p => decide (p.hold = .hold ∧ p.source = some .auto))
    (fun p => { p with hold := .none, source := none }) .rollover
  simp only [decide_eq_true_eq] at hrpt
  refine ⟨?_, fun d => ?_, ?_, ?_⟩
  · unfold rollover
    simp only [settleExperm_rpt, rolloverChange_eq, decide_eq_true_eq]
    exact hrpt
  · simp [rollover, State.dock, settleExperm]
  · simp [rollover, expermCondition, hr]
  · unfold rollover
    simp only [settleExperm_fleet, rolloverChange_eq]
    exact hfleet

/-- A rollover leaves the other blocks as they are. -/
theorem rollover_frame : (rollover s).evq = s.evq ∧ (rollover s).alc = s.alc ∧ (rollover s).rot = s.rot ∧ (rollover s).tly = s.tly ∧
    (rollover s).dck = s.dck ∧ (rollover s).dnc = s.dnc ∧ (rollover s).grid = s.grid ∧ (rollover s).pending = s.pending ∧
    (rollover s).draws = s.draws := by
  simp [rollover]

/-- The DUE check of one vehicle's entry in words, while the clock runs (R32). -/
theorem checkDueOf_running (v : Nat) (hr : s.dck.running = true) :
    checkDueOf v s = { s with rpt := { s.rpt with plans := s.rpt.plans.map fun p =>
      if p.vehicle = v ∧ p.state = .waiting ∧ p.departure - s.rpt.readyLead ≤ s.dck.depotTime then { p with state := .due } else p } } := by
  have h : updatePlan v (dueAt s.rpt.readyLead s.dck.depotTime) s.rpt.plans = s.rpt.plans.map fun p =>
      if p.vehicle = v ∧ p.state = .waiting ∧ p.departure - s.rpt.readyLead ≤ s.dck.depotTime then { p with state := .due } else p := by
    refine List.map_congr_left fun p _ => ?_
    by_cases hv : p.vehicle = v <;> simp [hv, dueAt, duePoint]
  simp only [checkDueOf, hr, if_true, State.mapPlans, h]

/-- The override expiry is reached when there is one and depot time is not before its expiry (R121). -/
theorem overrideReached_iff : overrideReached s = true ↔ ∃ o ∈ s.slu.limit, o.expiry ≤ s.dck.depotTime := by
  cases h : s.slu.limit <;> simp [overrideReached, h]

/-- The allocation timer is due when 2 s have passed since the previous pass, modulo the wrap (R78, R155). -/
theorem allocationDue_iff : allocationDue s = true ↔ 2 ≤ (s.dck.uptime + 4294967296 - s.alc.previousPass) % 4294967296 :=
  decide_eq_true_iff

/-- A command whose condition does not hold, or does, takes the branch (log 7). -/
theorem next_ite_pos {c : Prop} [Decidable c] {a b : State} (h : c) :
    (.next (if c then a else b) : Host.Outcome State Fault Refusal) = .next a := by rw [if_pos h]

theorem next_ite_neg {c : Prop} [Decidable c] {a b : State} (h : ¬c) :
    (.next (if c then a else b) : Host.Outcome State Fault Refusal) = .next b := by rw [if_neg h]

/-- Settles O36, one expiry or moment after the other. -/
theorem timedMomentsAreTaken : Obligations.TimedMomentsAreTaken := by
  intro v s
  refine ⟨fun h => next_ite_pos ((allocationDue_iff s).mpr h), fun h => next_ite_neg fun hd => ?_, next_ite_pos,
    fun h => ⟨next_ite_neg (by simp [h]), next_ite_neg (by simp [h]), next_ite_neg (by simp [h])⟩,
    fun o ho hx => next_ite_pos ((overrideReached_iff s).mpr ⟨o, ho, hx⟩), fun h => next_ite_neg fun hr => ?_, next_ite_neg,
    fun h => next_ite_neg (by simp [holdoffDue, h]), fun h => next_ite_neg (by simp [Rot.aDue, h]), fun h => next_ite_neg ?_, fun h => ?_,
    fun h => congrArg _ (checkDueOf_running s v h)⟩
  · have := (allocationDue_iff s).mp hd
    omega
  · obtain ⟨o, ho, hx⟩ := (overrideReached_iff s).mp hr
    exact (h o ho).not_ge hx
  · rcases h with h | h <;> simp [Rot.bDue, h]
  · obtain ⟨hrpt, hdock, hslu, hfleet⟩ := rollover_spec s h
    obtain ⟨hevq, halc, hrot, htly, hdck, hdnc, hgrid, -, -⟩ := rollover_frame s
    exact ⟨rollover s, next_ite_pos h, hrpt, hdock, hslu, hfleet, hevq, halc, hrot, htly, hdck, hdnc, hgrid⟩

end Sys2Proof.RoutePlans
end

section
/-! What an allocation pass does to the Route Plan Table, the Fleet Link, the tally and the Dock Net, where the laws of the operations leave it
open; and a pass taken without an ACTIVE record (R79 to R102). -/

namespace Sys2Proof.RoutePlans

open Sys2Proof Sys2Proof.Machine

variable (s : State)

/-! ### Changes of holds that select nothing -/

theorem changeHolds_none {c : Plan → Option (Plan × HoldCause)} (h : ∀ p ∈ s.rpt.plans, c p = none) : changeHolds c s = s := by
  have hf : s.rpt.plans.filterMap c = [] := List.filterMap_eq_nil_iff.mpr h
  have hm : (s.rpt.plans.map fun p => ((c p).map Prod.fst).getD p) = s.rpt.plans :=
    (List.map_congr_left fun p hp => by rw [h p hp]; rfl).trans (List.map_id' _)
  simp only [changeHolds, hf, List.foldl_nil, State.mapPlans, hm]

theorem applyShortBand_nil : applyShortBand [] s = s := changeHolds_none s fun p _ => by simp [shortBandChange]

/-! ### What a pass leaves of the Dock Net and of the records -/

@[simp] theorem runPass_fleet : (runPass s).fleet = (applyShortBand (passOutcome s).handOver s).fleet := by
  have h : ∀ t : State, t.rpt = s.rpt → t.fleet = s.fleet → (queueSetpoints (writeDocks s (passOutcome s)
      (applyShortBand (passOutcome s).handOver t))).fleet = (applyShortBand (passOutcome s).handOver s).fleet := by
    intro t hr hf
    rw [queueSetpoints_fleet, writeDocks_fleet, applyShortBand, applyShortBand, changeHolds_fleet, changeHolds_fleet, hr, hf]
  simp only [runPass]
  split <;> exact h _ rfl rfl

/-- The parameters of the Route Plan Table stay. -/
theorem runPass_rpt_params : (runPass s).rpt = { s.rpt with plans := (runPass s).rpt.plans } := by
  rw [runPass_rpt, applyShortBand, changeHolds_rpt]

/-- A Dock Net Controller with the three fields a pass may change given. -/
def withPassFields (v : Vector Bool 40) (q : List Setpoint) (x : Option Transmission) (n : Dnc) : Dnc :=
  { n with phase := v, queuedSetpoints := q, sending := x }

theorem withPassFields_of_steps {a b c : Dnc} {v : Vector Bool 40} {q : List Setpoint} {x : Option Transmission}
    (h1 : { a with queuedSetpoints := q, sending := x } = { b with queuedSetpoints := q, sending := x })
    (h2 : { b with phase := v } = { c with phase := v }) : withPassFields v q x a = withPassFields v q x c := by
  cases a; cases b; cases c
  simp_all [withPassFields]

/-- Of the Dock Net Controller a pass changes phase bits, queued SETPOINTs and the mark of the frame in transmission. -/
theorem runPass_dnc (v : Vector Bool 40) (q : List Setpoint) (x : Option Transmission) :
    withPassFields v q x (runPass s).dnc = withPassFields v q x s.dnc := by
  have h : ∀ t : State, t.dnc = s.dnc →
      withPassFields v q x (queueSetpoints (writeDocks s (passOutcome s) (applyShortBand (passOutcome s).handOver t))).dnc =
        withPassFields v q x s.dnc := by
    intro t ht
    have h2 := writeDocks_dnc (applyShortBand (passOutcome s).handOver t) s (passOutcome s) v
    rw [applyShortBand_dnc, ht] at h2
    exact withPassFields_of_steps (queueSetpoints_dnc _ q x) h2
  simp only [runPass]
  split <;> exact h _ rfl

theorem runPass_echo : (runPass s).dnc.echo = s.dnc.echo := by
  have h := congrArg Dnc.echo (runPass_dnc s s.dnc.phase [] none)
  simpa only [withPassFields] using h

/-- What a pass leaves of a record (R101). -/
theorem runPass_dock_kept (d : Dock) : ((runPass s).dock d).state = (s.dock d).state ∧ ((runPass s).dock d).vehicle = (s.dock d).vehicle ∧
    ((runPass s).dock d).stored = (s.dock d).stored ∧ ((runPass s).dock d).dayThroughput = (s.dock d).dayThroughput := by
  rw [runPass_dock, DockRecord.written]
  split <;> exact ⟨rfl, rfl, rfl, rfl⟩

/-! ### The tally but for its peak shortfall (R144) -/

/-- A tally with the peak shortfall left out, the one field a pass may change. -/
def bare (y : Tally) : Tally := { y with peakShortfall := 0 }

theorem bare_eq_iff {y z : Tally} : bare z = bare y ↔ z = { y with peakShortfall := z.peakShortfall } := by
  constructor
  · intro h
    cases y; cases z
    simp only [bare, Tally.mk.injEq] at h ⊢
    tauto
  · intro h
    rw [h]
    rfl

theorem runPass_tally : (runPass s).tly.tally.map bare = s.tly.tally.map bare := by
  rw [runPass_tly]
  split
  · cases h : s.tly.tally <;> simp [handShortfall, h, bare]
  · rfl

/-- A pass leaves the rest of the Tally Unit. -/
theorem runPass_tly_rest : (runPass s).tly = { s.tly with tally := (runPass s).tly.tally } := by
  rw [runPass_tly]
  split <;> rfl

/-! ### A pass without an ACTIVE record -/

theorem shortBandVehicles_nil : shortBandVehicles s [] = [] := by
  refine List.filterMap_eq_nil_iff.mpr fun d _ => ?_
  dsimp only
  split
  · simp [givenTo]
  · rfl

/-- Without an ACTIVE record a pass gives no share, counts no shortfall, yields no rest and hands no vehicle over (R94 to R100). -/
theorem passOutcome_noEvent (h : activeRecord s.evq = none) :
    (passOutcome s).shares = [] ∧ (passOutcome s).shortfall = 0 ∧ (passOutcome s).yielded = false ∧ (passOutcome s).handOver = [] := by
  have hs : passShares s = [] := by simp [passShares, h]
  unfold passOutcome
  split
  · simp [normalOutcome, hs, h, shortBandVehicles_nil]
  · simp [tripOutcome, h]

theorem runPass_noEvent (h : activeRecord s.evq = none) :
    (runPass s).rpt = s.rpt ∧ (runPass s).fleet = s.fleet ∧ (runPass s).tly = s.tly ∧ (runPass s).rot = s.rot ∧
      (runPass s).alc.lastShortfall = 0 ∧ (runPass s).alc.lastYield = false ∧ ∀ d : Dock, ((runPass s).dock d).share = 0 := by
  obtain ⟨hshares, hshort, hyield, hhand⟩ := passOutcome_noEvent s h
  refine ⟨?_, ?_, ?_, ?_, ?_, ?_, fun d => ?_⟩
  · rw [runPass_rpt, hhand, applyShortBand_nil]
  · rw [runPass_fleet, hhand, applyShortBand_nil]
  · simp [h]
  · simp [hyield]
  · simp [PassOutcome.alc, hshort]
  · simp [PassOutcome.alc, hyield]
  · simp [DockRecord.written, PassOutcome.shareOf, hshares, givenTo]

end Sys2Proof.RoutePlans
end

section
/-! The end of an event and the settlement boundary (R67, R68, R145 to R150). -/

namespace Sys2Proof.RoutePlans

open Sys2Proof Sys2Proof.Machine

variable (s : State)

/-! ### Intervals in the words of the statements -/

theorem toNat_decide (P : Prop) [Decidable P] : (decide P).toNat = if P then 1 else 0 := by
  by_cases h : P <;> simp [h]

/-- The test of R147 with its sizes as integers. -/
theorem divergent_eq (i : Interval) (w : Nat) : i.divergent w = decide (0 < w ∧ 15 * (max (max (i.meterNet.natAbs : Int) i.dockNet.natAbs) 1000) <
    ((i.meterNet - i.dockNet).natAbs : Int) * 100) := by
  unfold Interval.divergent
  rw [← Bool.decide_and]
  exact decide_eq_decide.mpr (and_congr_right fun _ => by omega)

theorem percentage_eq (i : Interval) (w length : Nat) : i.percentage w length =
    if ((i.target length : Nat) : Int) = 0 then (if 0 ≤ i.delivered w then 100 else 0)
    else (max 0 (min 100 (i.delivered w * 100 / ((i.target length : Nat) : Int)))).toNat := by
  simp only [Interval.percentage, Int.natCast_eq_zero, clampInt]

theorem judge_eq (w length : Nat) (y : Tally) : y.judge w length = judged w length y := by
  unfold Tally.judge judged
  split
  · rfl
  · simp only [percentage_eq, divergent_eq, Interval.met, toNat_decide]
    rfl

/-- A tally whose interval's boundary, when depot time has reached it before the event's end, is passed (R145, R148). -/
def passedAt (w now : Nat) (r : EventRecord) (y : Tally) : Tally :=
  if y.interval.start + 300 < r.stop ∧ y.interval.start + 300 ≤ now then
    { judged w 300 y with interval := openedAt (y.interval.start + 300) r.committed }
  else y

theorem boundaryReached_iff (y : Tally) (stop now : Nat) :
    y.boundaryReached stop now = true ↔ y.interval.start + 300 < stop ∧ y.interval.start + 300 ≤ now := by
  unfold Tally.boundaryReached Tally.boundary
  by_cases h : y.interval.start + 300 < stop <;> simp [h]

theorem passBoundary_eq (w committed : Nat) (y : Tally) :
    y.passBoundary w committed = { judged w 300 y with interval := openedAt (y.interval.start + 300) committed } := by
  unfold Tally.passBoundary
  rw [judge_eq]
  rfl

theorem closeIntervals_eq (w now : Nat) (r : EventRecord) (n : Nat) (y : Tally) :
    y.closeIntervals w r.committed r.stop now n = judged w (n - (passedAt w now r y).interval.start) (passedAt w now r y) := by
  have h : (if y.boundaryReached r.stop now then y.passBoundary w r.committed else y) = passedAt w now r y := by
    simp only [boundaryReached_iff, passBoundary_eq, passedAt]
  unfold Tally.closeIntervals
  rw [h, judge_eq]

/-! ### The end of an event -/

/-- The state in which the pass of an event's end is taken: tally closed, holds taken, rotation finished (R68). -/
def beforeEndPass (r : EventRecord) (cause : EndCause) (n : Nat) (s : State) : State :=
  let closed := closeTally r cause n (s.mapEvq fun q => q.erase r)
  let held := applyEventEndHolds closed.2 closed.1
  { held with rot := held.rot.finish }

theorem endActive_eq (r : EventRecord) (cause : EndCause) (n : Nat) :
    endActive r cause n s = raiseBoth (endedNotice r cause n) (runPass (beforeEndPass r cause n s)) := rfl

/-- Closing the tally changes the Tally Unit alone. -/
theorem closeTally_frame (r : EventRecord) (cause : EndCause) (n : Nat) :
    (closeTally r cause n s).1 = { s with tly := (closeTally r cause n s).1.tly } := by
  unfold closeTally
  split <;> rfl

section
variable (r : EventRecord) (cause : EndCause) (n : Nat)

@[simp] theorem beforeEndPass_evq : (beforeEndPass r cause n s).evq = s.evq.erase r := by
  simp only [beforeEndPass, applyEventEndHolds, changeHolds_evq]; rw [closeTally_frame]; rfl
@[simp] theorem beforeEndPass_slu : (beforeEndPass r cause n s).slu = s.slu := by
  simp only [beforeEndPass, applyEventEndHolds, changeHolds_slu]; rw [closeTally_frame]; rfl
@[simp] theorem beforeEndPass_dck : (beforeEndPass r cause n s).dck = s.dck := by
  simp only [beforeEndPass, applyEventEndHolds, changeHolds_dck]; rw [closeTally_frame]; rfl
@[simp] theorem beforeEndPass_dnc : (beforeEndPass r cause n s).dnc = s.dnc := by
  simp only [beforeEndPass, applyEventEndHolds, changeHolds_dnc]; rw [closeTally_frame]; rfl
@[simp] theorem beforeEndPass_grid : (beforeEndPass r cause n s).grid = s.grid := by
  simp only [beforeEndPass, applyEventEndHolds, changeHolds_grid]; rw [closeTally_frame]; rfl
@[simp] theorem beforeEndPass_docks : (beforeEndPass r cause n s).docks = s.docks := by
  simp only [beforeEndPass, applyEventEndHolds, changeHolds_docks]; rw [closeTally_frame]; rfl
@[simp] theorem beforeEndPass_dock (d : Dock) : (beforeEndPass r cause n s).dock d = s.dock d := by simp [State.dock]
@[simp] theorem beforeEndPass_rot : (beforeEndPass r cause n s).rot = s.rot.finish := by
  simp only [beforeEndPass, applyEventEndHolds, changeHolds_rot]; rw [closeTally_frame]; rfl

end

/-- From `y` to `z` the intervals may have been judged and opened, and nothing else of the tally has changed. -/
structure SameCounts (y z : Tally) : Prop where
  eventId : z.eventId = y.eventId
  meterNet : z.meterNet = y.meterNet
  dockExport : z.dockExport = y.dockExport
  dockIntake : z.dockIntake = y.dockIntake
  participants : z.participants = y.participants
  peakShortfall : z.peakShortfall = y.peakShortfall
  tripSeconds : z.tripSeconds = y.tripSeconds

/-- To judge an interval changes its four figures alone (R146, R147). -/
theorem judged_counts (w length : Nat) (y : Tally) : SameCounts y (judged w length y) := by
  unfold judged
  dsimp only
  split <;> constructor <;> rfl

/-- A passed boundary changes the four figures and the interval alone (R148). -/
theorem passedAt_counts (w now : Nat) (r : EventRecord) (y : Tally) : SameCounts y (passedAt w now r y) := by
  have h := judged_counts w 300 y
  unfold passedAt
  split
  · exact ⟨h.eventId, h.meterNet, h.dockExport, h.dockIntake, h.participants, h.peakShortfall, h.tripSeconds⟩
  · constructor <;> rfl

/-- A tally with its intervals closed at the actual end `n` of the record, by the depot time `now` (R149 steps 1 and 2). -/
def closedAt (w now : Nat) (r : EventRecord) (n : Nat) (y : Tally) : Tally :=
  judged w (n - (passedAt w now r y).interval.start) (passedAt w now r y)

theorem closedAt_counts (w now : Nat) (r : EventRecord) (n : Nat) (y : Tally) : SameCounts y (closedAt w now r n y) := by
  have h := passedAt_counts w now r y
  have k := judged_counts w (n - (passedAt w now r y).interval.start) (passedAt w now r y)
  exact ⟨k.eventId.trans h.eventId, k.meterNet.trans h.meterNet, k.dockExport.trans h.dockExport, k.dockIntake.trans h.dockIntake,
    k.participants.trans h.participants, k.peakShortfall.trans h.peakShortfall, k.tripSeconds.trans h.tripSeconds⟩

/-- The closing of an open tally, with its participants (R149, R150, R152). -/
theorem closeTally_open {y : Tally} (hy : s.tly.tally = some y) (r : EventRecord) (cause : EndCause) (n : Nat) :
    closeTally r cause n s =
      ({ s with tly := { s.tly.addResult (resultOf r cause n s.rot.yieldCount (closedAt s.tly.meterWeight s.dck.depotTime r n y)) with
        tally := none } }, y.participants.map Prod.fst) := by
  have h : y.closeIntervals s.tly.meterWeight r.committed r.stop s.dck.depotTime n = closedAt s.tly.meterWeight s.dck.depotTime r n y :=
    closeIntervals_eq ..
  simp only [closeTally, hy, h, (closedAt_counts _ _ r n y).participants]

/-- The Results List after a result, in a sound list of at most six (R152). -/
theorem addResult_eq (x : Result) (y : Tly) (h : y.results.length ≤ 6) : y.addResult x = { y with
    results := (if y.results.length < 6 then y.results else y.results.tail) ++ [x]
    resultsLost := if y.results.length = 6 ∧ y.results.head?.any (fun z => !z.read) = true then min 255 (y.resultsLost + 1)
      else y.resultsLost } := by
  unfold Tly.addResult
  by_cases h6 : y.results.length < 6
  · simp [h6, h6.ne]
  · have he : y.results.length = 6 := by omega
    obtain ⟨old, rest, hl⟩ := List.exists_cons_of_length_eq_add_one he
    by_cases hr : old.read = true <;> simp_all [satAdd]

theorem endReached_cons {r : EventRecord} {rest : List EventRecord} (h : s.evq = r :: rest) :
    endReached s = if r.state = .active ∧ r.stop ≤ s.dck.depotTime then some r else none := by
  unfold endReached activeRecord
  by_cases ha : r.state = .active <;> by_cases hs : r.stop ≤ s.dck.depotTime <;> simp [h, ha, hs, Option.filter]

theorem endIfReached_cons {r : EventRecord} {rest : List EventRecord} (h : s.evq = r :: rest) :
    endIfReached s = if r.state = .active ∧ r.stop ≤ s.dck.depotTime then endActive r .complete r.stop s else s := by
  unfold endIfReached
  rw [endReached_cons s h]
  split
  · next he => split at he <;> simp_all
  · next he => split at he <;> simp_all

theorem endIfReached_nil (h : s.evq = []) : endIfReached s = s := by
  simp [endIfReached, endReached, activeRecord, h]

/-- Behind the first record of a sound queue none is ACTIVE (R52). -/
theorem activeRecord_tail {r : EventRecord} {rest : List EventRecord} (hok : s.EventsOk) (h : s.evq = r :: rest) : activeRecord rest = none := by
  cases rest with
  | nil => rfl
  | cons a l =>
    have := hok.active_first a (by simp [h])
    simp [activeRecord, this]

/-- The state before the pass of an end with an open tally, in the Route Plan Table, the Fleet Link and the Tally Unit (R41, R149 to R152). -/
theorem beforeEndPass_open {y : Tally} (hy : s.tly.tally = some y) (r : EventRecord) (cause : EndCause) (n : Nat) :
    let held := eventEndChange (y.participants.map Prod.fst)
    (beforeEndPass r cause n s).tly = { s.tly.addResult
        (resultOf r cause n s.rot.yieldCount (closedAt s.tly.meterWeight s.dck.depotTime r n y)) with tally := none } ∧
      (beforeEndPass r cause n s).rpt = { s.rpt with plans := s.rpt.plans.map fun p => ((held p).map Prod.fst).getD p } ∧
      (beforeEndPass r cause n s).fleet = (s.rpt.plans.filterMap held).foldl (fun p q => p.raise (holdNotice q.2 q.1)) s.fleet := by
  intro held
  have hc := closeTally_open (s.mapEvq fun q => q.erase r) hy r cause n
  simp only [beforeEndPass, hc, applyEventEndHolds, changeHolds_tly, changeHolds_rpt, changeHolds_fleet]
  exact ⟨rfl, rfl, rfl⟩

theorem rot_finish_eq (r : Rot) : r.finish = { r with
    state := .off, aTimer := none, bTimer := none, cursor := 0, pendingSetting := none
    list := match r.pendingSetting with | some q => q.list | none => r.list
    yieldOn := match r.pendingSetting with | some q => q.yieldOn | none => r.yieldOn } := by
  cases h : r.pendingSetting <;> simp [Rot.finish, Rot.takeUp, h]

/-- Settles O40: the end of the first record when it is reached, nothing otherwise. -/
theorem eventEndClosesTheEvent : Obligations.EventEndClosesTheEvent := by
  intro s
  have hexec : exec .eventEnd s = .next (endIfReached s) := rfl
  split
  case h_2 hq => rw [hexec, endIfReached_nil s hq]
  case h_1 r rest hq =>
    rw [hexec, endIfReached_cons s hq]
    split
    case isFalse => rfl
    case isTrue =>
    refine ⟨_, rfl, ?_, ?_, ?_, fun hok y hy => ?_⟩
    · simp [endActive_eq, hq]
    · simp [endActive_eq]
    · simp [endActive_eq]
    have hrest : activeRecord (beforeEndPass r .complete r.stop s).evq = none := by
      simpa [hq] using activeRecord_tail s hok hq
    obtain ⟨hrpt, hfleet, htly, hrot, hshort, hyield, hshare⟩ := runPass_noEvent _ hrest
    obtain ⟨btly, brpt, bfleet⟩ := beforeEndPass_open s hy r .complete r.stop
    intro w passed closed held x
    have hx : resultOf r .complete r.stop s.rot.yieldCount (closedAt w s.dck.depotTime r r.stop y) = x := by
      have h := closedAt_counts w s.dck.depotTime r r.stop y
      simp only [resultOf, h.meterNet, h.dockExport, h.dockIntake, h.peakShortfall, h.tripSeconds, h.participants]
      rfl
    have hheld : held = eventEndChange (y.participants.map Prod.fst) := rfl
    rw [endActive_eq]
    refine ⟨?_, ?_, ?_, ?_, ?_, ?_, ?_, fun d => ⟨?_, ?_⟩, ?_⟩
    · rw [raiseBoth_tly, htly, btly, addResult_eq _ _ hok.results, hx]
    · rw [raiseBoth_rpt, hrpt, brpt, ← hheld]
      refine congrArg (fun l => { s.rpt with plans := l }) (List.map_congr_left fun p _ => ?_)
      cases held p <;> rfl
    · rw [raiseBoth_fleet, hfleet, bfleet]
      rfl
    · exact (raiseBoth_rot _ _).trans (hrot.trans ((beforeEndPass_rot s r _ _).trans (rot_finish_eq s.rot)))
    · simp [PassOutcome.alc]
    · rw [raiseBoth_alc, hshort]
    · rw [raiseBoth_alc, hyield]
    · rw [raiseBoth_dock, hshare]
    · rw [raiseBoth_dock, (runPass_dock_kept _ d).1, beforeEndPass_dock]
    · rw [raiseBoth_grid, runPass_grid, beforeEndPass_grid]
      rfl

/-! ### The settlement boundary -/

/-- The state at a settlement boundary once the interval is judged and the pending holds have taken effect (R148, R40). -/
def settled (r : EventRecord) (s : State) : State :=
  changeHolds deferredChange (s.mapTally (Tally.passBoundary s.tly.meterWeight r.committed))

theorem passSettlement_eq {r : EventRecord} (h : activeRecord s.evq = some r) :
    passSettlement s = if s.rpt.plans.any Plan.pendingHold then runPass (settled r s) else settled r s := by
  simp only [passSettlement, h, settled]

theorem activeRecord_eq_some {q : List EventRecord} {r : EventRecord} (h : activeRecord q = some r) : q.head? = some r ∧ r.state = .active := by
  cases q with
  | nil => cases h
  | cons a l =>
    simp only [activeRecord] at h
    split at h <;> cases h
    exact ⟨rfl, ‹_›⟩

theorem activeRecord_of_head {q : List EventRecord} {r : EventRecord} (h : q.head? = some r) (ha : r.state = .active) :
    activeRecord q = some r := by
  cases q with
  | nil => cases h
  | cons a l =>
    cases h
    simp [activeRecord, ha]

theorem activeRecord_of_head_pending {q : List EventRecord} {r : EventRecord} (h : q.head? = some r) (ha : r.state ≠ .active) :
    activeRecord q = none := by
  cases q with
  | nil => cases h
  | cons a l =>
    cases h
    simp [activeRecord, ha]

/-- The boundary is reached for the first record, when it is ACTIVE and a tally is open (R145). -/
theorem boundaryReached_open {r : EventRecord} {y : Tally} (hr : activeRecord s.evq = some r) (hy : s.tly.tally = some y) :
    boundaryReached s = true ↔ y.interval.start + 300 < r.stop ∧ y.interval.start + 300 ≤ s.dck.depotTime := by
  simp only [Machine.boundaryReached, hr, hy, boundaryReached_iff]

section
variable (r : EventRecord)

@[simp] theorem settled_evq : (settled r s).evq = s.evq := by simp [settled]
@[simp] theorem settled_slu : (settled r s).slu = s.slu := by simp [settled]
@[simp] theorem settled_dck : (settled r s).dck = s.dck := by simp [settled]
@[simp] theorem settled_dnc : (settled r s).dnc = s.dnc := by simp [settled]
@[simp] theorem settled_docks : (settled r s).docks = s.docks := by simp [settled]
@[simp] theorem settled_grid : (settled r s).grid = s.grid := by simp [settled]
@[simp] theorem settled_alc : (settled r s).alc = s.alc := by simp [settled]
@[simp] theorem settled_tly : (settled r s).tly =
    { s.tly with tally := s.tly.tally.map (Tally.passBoundary s.tly.meterWeight r.committed) } := by simp [settled]
theorem settled_rpt : (settled r s).rpt = { s.rpt with plans := s.rpt.plans.map fun p => if p.pendingHold then p.holdManual else p } := by
  have h : (s.rpt.plans.map fun p => ((deferredChange p).map Prod.fst).getD p) =
      s.rpt.plans.map fun p => if p.pendingHold then p.holdManual else p :=
    List.map_congr_left fun p _ => by by_cases hp : p.pendingHold = true <;> simp [deferredChange, hp]
  simp only [settled, changeHolds_rpt, State.mapTally_rpt, h]

/-- Without a pending hold the boundary changes the tally alone. -/
theorem settled_noPending (h : s.rpt.plans.any Plan.pendingHold = false) :
    settled r s = s.mapTally (Tally.passBoundary s.tly.meterWeight r.committed) := by
  refine changeHolds_none _ fun p hp => ?_
  have : p.pendingHold = false := by simpa using List.any_eq_false.mp h p hp
  simp [deferredChange, this]

end

/-- The holds of an entry after a pass: as they were, or HOLD (AUTO) from NONE (R42). -/
theorem mem_runPass_plans {q : Plan} (h : q ∈ (runPass s).rpt.plans) :
    q ∈ s.rpt.plans ∨ ∃ p ∈ s.rpt.plans, p.hold = .none ∧ q = p.holdAuto := by
  rw [runPass_rpt, applyShortBand, changeHolds_rpt] at h
  obtain ⟨p, hp, rfl⟩ := List.mem_map.mp h
  by_cases hc : p.vehicle ∈ (passOutcome s).handOver ∧ p.hold = .none
  · exact .inr ⟨p, hp, hc.2, by simp [shortBandChange, hc]⟩
  · exact .inl (by simpa [shortBandChange, hc] using hp)

/-- An entry with a hold is one that a pass leaves (R42). -/
theorem mem_runPass_plans_of_hold {p : Plan} (hp : p ∈ s.rpt.plans) (h : p.hold ≠ .none) : p ∈ (runPass s).rpt.plans := by
  rw [runPass_rpt, applyShortBand, changeHolds_rpt]
  exact List.mem_map.mpr ⟨p, hp, by simp [shortBandChange, h]⟩

/-- Settles O41: the boundary of the interval of the first record, ACTIVE, when it is reached; nothing otherwise. -/
theorem settlementBoundaryJudgesTheInterval : Obligations.SettlementBoundaryJudgesTheInterval := by
  intro s r hr y hy i
  have hexec : exec .settlementBoundary s = .next (settlementIfReached s) := rfl
  rw [hexec, settlementIfReached]
  by_cases ha : r.state = .active
  case neg =>
    have hno : Machine.boundaryReached s = false := by
      cases ht : s.tly.tally <;> simp [Machine.boundaryReached, ht, activeRecord_of_head_pending hr ha]
    rw [if_neg fun h => ha h.1, hno]
    rfl
  have hact := activeRecord_of_head hr ha
  have hiff := boundaryReached_open s hact hy
  split
  case isFalse h =>
    rw [if_neg fun hb => h ⟨ha, hiff.mp hb⟩]
  case isTrue h =>
  rw [if_pos (hiff.mpr h.2), passSettlement_eq s hact]
  have htally : (settled r s).tly.tally = some { judged s.tly.meterWeight 300 y with interval := openedAt (i.start + 300) r.committed } := by
    rw [settled_tly, Option.mem_def.mp hy, Option.map_some, passBoundary_eq]
  have hcleared : ∀ p ∈ (settled r s).rpt.plans, p.pendingHold = false := by
    intro p hp
    rw [settled_rpt] at hp
    obtain ⟨q, -, rfl⟩ := List.mem_map.mp hp
    by_cases hq : q.pendingHold = true <;> simp [hq, Plan.holdManual]
  by_cases hpend : s.rpt.plans.any Plan.pendingHold = true
  · rw [if_pos hpend]
    have hz := runPass_tally (settled r s)
    rw [htally, Option.map_some, Option.map_eq_some_iff] at hz
    obtain ⟨z, hz, hbare⟩ := hz
    refine ⟨_, rfl, ⟨z, hz, bare_eq_iff.mp hbare, by simp [hpend]⟩, fun p hp => ?_, by simp [hpend], fun _ => ⟨?_, fun p hp hpp => ?_⟩,
      ?_, ?_, ?_, ?_, ?_⟩
    · rcases mem_runPass_plans _ hp with hq | ⟨q, hq, -, rfl⟩
      · exact hcleared p hq
      · exact hcleared q hq
    · simp [PassOutcome.alc]
    · refine mem_runPass_plans_of_hold _ ?_ (by simp)
      rw [settled_rpt]
      exact List.mem_map.mpr ⟨p, hp, by simp [hpp, Plan.holdManual]⟩
    · simp
    · simp
    · simp
    · simp
    · rw [runPass_tly_rest, settled_tly]
  · rw [if_neg hpend]
    have hnone : s.rpt.plans.any Plan.pendingHold = false := by simpa using hpend
    refine ⟨_, rfl, ⟨_, htally, rfl, fun _ => (judged_counts s.tly.meterWeight 300 y).peakShortfall⟩, hcleared, fun _ => ?_, fun h => absurd h hpend, ?_, ?_,
      ?_, ?_, ?_⟩
    · rw [settled_noPending s r hnone]
      exact ⟨rfl, rfl, rfl, rfl, rfl⟩
    all_goals simp

end Sys2Proof.RoutePlans
end

section
/-! The moments of a delivery of depot time (R160): what every owner's moment keeps, and what the Event Queue's does, whatever the order. -/

namespace Sys2Proof.RoutePlans

open Sys2Proof Sys2Proof.Machine

/-! ### What every moment keeps -/

/-- What no owner's moment changes but in the way told: the clock, the site limits but for a lapsed override, the plan entries but for their
holds and plan states that leave WAITING, the records but for what a pass writes, and the Allocator but for a pass at this uptime. -/
structure MomentKeeps (s t : State) : Prop where
  dck : t.dck = s.dck
  slu : t.slu = { s.slu with limit := t.slu.limit }
  limit : t.slu.limit = s.slu.limit ∨ t.slu.limit = none
  lead : t.rpt.readyLead = s.rpt.readyLead
  waiting : ∀ p ∈ t.rpt.plans, p.state = .waiting → ∃ q ∈ s.rpt.plans, q.state = .waiting ∧ q.departure = p.departure
  docks : ∀ d : Dock, (t.dock d).state = (s.dock d).state ∧ (t.dock d).vehicle = (s.dock d).vehicle ∧ (t.dock d).stored = (s.dock d).stored ∧
    (t.dock d).dayThroughput = (s.dock d).dayThroughput
  pass : t.alc.previousPass = s.alc.previousPass ∨ t.alc.previousPass = s.dck.uptime
  weight : t.tly.meterWeight = s.tly.meterWeight
  echo : t.dnc.echo.state = .running → s.dnc.echo.state = .running

variable {s t u : State}

theorem MomentKeeps.refl (s : State) : MomentKeeps s s :=
  ⟨rfl, rfl, .inl rfl, rfl, fun p hp hw => ⟨p, hp, hw, rfl⟩, fun _ => ⟨rfl, rfl, rfl, rfl⟩, .inl rfl, rfl, id⟩

theorem MomentKeeps.trans (h : MomentKeeps s t) (k : MomentKeeps t u) : MomentKeeps s u where
  dck := k.dck.trans h.dck
  slu := by rw [k.slu, h.slu]
  limit := by
    rcases k.limit with hk | hk
    · rw [hk]; exact h.limit
    · exact .inr hk
  lead := k.lead.trans h.lead
  waiting := fun p hp hw => by
    obtain ⟨q, hq, hqw, hqd⟩ := k.waiting p hp hw
    obtain ⟨r, hr, hrw, hrd⟩ := h.waiting q hq hqw
    exact ⟨r, hr, hrw, hrd.trans hqd⟩
  docks := fun d => by
    obtain ⟨k1, k2, k3, k4⟩ := k.docks d
    obtain ⟨h1, h2, h3, h4⟩ := h.docks d
    exact ⟨k1.trans h1, k2.trans h2, k3.trans h3, k4.trans h4⟩
  pass := by
    rcases k.pass with hk | hk
    · rw [hk]; exact h.pass
    · rw [hk, h.dck]; exact .inr rfl
  weight := k.weight.trans h.weight
  echo := h.echo ∘ k.echo

/-- The entries of a pass have the plan state and the departure they had. -/
theorem runPass_waiting (s : State) : ∀ p ∈ (runPass s).rpt.plans, p.state = .waiting →
    ∃ q ∈ s.rpt.plans, q.state = .waiting ∧ q.departure = p.departure := by
  intro p hp hw
  rcases mem_runPass_plans s hp with h | ⟨q, hq, -, rfl⟩
  · exact ⟨p, h, hw, rfl⟩
  · exact ⟨q, hq, hw, rfl⟩

theorem runPass_momentKeeps (s : State) : MomentKeeps s (runPass s) where
  dck := runPass_dck s
  slu := by rw [runPass_slu]
  limit := .inl (by rw [runPass_slu])
  lead := by rw [runPass_rpt_params]
  waiting := runPass_waiting s
  docks := runPass_dock_kept s
  pass := .inr (by simp [PassOutcome.alc])
  weight := by rw [runPass_tly_rest]
  echo := by rw [runPass_echo]; exact id

/-- A pass restarts the allocation timer at this uptime (R78). -/
theorem runPass_previousPass (s : State) : (runPass s).alc.previousPass = s.dck.uptime := by simp [PassOutcome.alc]

theorem raiseBoth_momentKeeps (n : Notice) (s : State) : MomentKeeps s (raiseBoth n s) where
  dck := raiseBoth_dck s n
  slu := by rw [raiseBoth_slu]
  limit := .inl (by rw [raiseBoth_slu])
  lead := by rw [raiseBoth_rpt]
  waiting := fun p hp hw => ⟨p, by rwa [raiseBoth_rpt] at hp, hw, rfl⟩
  docks := fun d => by rw [raiseBoth_dock]; exact ⟨rfl, rfl, rfl, rfl⟩
  pass := .inl (by rw [raiseBoth_alc])
  weight := by rw [raiseBoth_tly]
  echo := by rw [raiseBoth_dnc]; exact id

theorem abortEcho_running (n : Dnc) : n.abortEcho.echo.state ≠ .running := by
  unfold Dnc.abortEcho
  split
  · exact nofun
  · assumption

theorem startFirst_momentKeeps (s : State) : MomentKeeps s (startFirst s) := by
  unfold startFirst
  split
  · next r rest _ =>
    refine MomentKeeps.trans ?_ ((runPass_momentKeeps _).trans (raiseBoth_momentKeeps _ _))
    exact ⟨rfl, rfl, .inl rfl, rfl, fun p hp hw => ⟨p, hp, hw, rfl⟩, fun _ => ⟨rfl, rfl, rfl, rfl⟩, .inl rfl, rfl,
      fun h => absurd h (abortEcho_running _)⟩
  · exact .refl s

theorem closeTally_weight (r : EventRecord) (cause : EndCause) (n : Nat) (s : State) :
    (closeTally r cause n s).1.tly.meterWeight = s.tly.meterWeight := by
  unfold closeTally Tly.addResult
  split
  · dsimp only
    split <;> rfl
  · rfl

theorem beforeEndPass_momentKeeps (r : EventRecord) (cause : EndCause) (n : Nat) (s : State) : MomentKeeps s (beforeEndPass r cause n s) where
  dck := beforeEndPass_dck s r cause n
  slu := by rw [beforeEndPass_slu]
  limit := .inl (by rw [beforeEndPass_slu])
  lead := by
    simp only [beforeEndPass, applyEventEndHolds, changeHolds_rpt]
    rw [closeTally_frame]
    rfl
  waiting := fun p hp hw => by
    simp only [beforeEndPass, applyEventEndHolds, changeHolds_rpt] at hp
    rw [closeTally_frame] at hp
    obtain ⟨q, hq, rfl⟩ := List.mem_map.mp hp
    refine ⟨q, hq, ?_⟩
    generalize (closeTally r cause n (s.mapEvq fun q => q.erase r)).2 = l at hw ⊢
    unfold eventEndChange at hw ⊢
    split
    · simp_all [Plan.holdManual]
    · split <;> simp_all [Plan.holdAuto]
  docks := fun d => by rw [beforeEndPass_dock]; exact ⟨rfl, rfl, rfl, rfl⟩
  pass := .inl (by
    simp only [beforeEndPass, applyEventEndHolds, changeHolds_alc]
    rw [closeTally_frame]
    rfl)
  weight := by
    simp only [beforeEndPass, applyEventEndHolds, changeHolds_tly]
    exact closeTally_weight r cause n _
  echo := by rw [beforeEndPass_dnc]; exact id

theorem endActive_momentKeeps (r : EventRecord) (cause : EndCause) (n : Nat) (s : State) : MomentKeeps s (endActive r cause n s) :=
  (beforeEndPass_momentKeeps r cause n s).trans ((runPass_momentKeeps _).trans (raiseBoth_momentKeeps _ _))

theorem settled_momentKeeps (r : EventRecord) (s : State) : MomentKeeps s (settled r s) where
  dck := settled_dck s r
  slu := by rw [settled_slu]
  limit := .inl (by rw [settled_slu])
  lead := by rw [settled_rpt]
  waiting := fun p hp hw => by
    rw [settled_rpt] at hp
    obtain ⟨q, hq, rfl⟩ := List.mem_map.mp hp
    refine ⟨q, hq, ?_⟩
    split at hw <;> exact ⟨hw, by split <;> rfl⟩
  docks := fun d => by simp [State.dock]
  pass := .inl (by rw [settled_alc])
  weight := by rw [settled_tly]
  echo := by rw [settled_dnc]; exact id

theorem passSettlement_momentKeeps (s : State) : MomentKeeps s (passSettlement s) := by
  cases h : activeRecord s.evq with
  | none =>
    simp only [passSettlement, h]
    exact .refl s
  | some r =>
    rw [passSettlement_eq s h]
    split
    · exact (settled_momentKeeps r s).trans (runPass_momentKeeps _)
    · exact settled_momentKeeps r s

theorem overrideIfReached_momentKeeps (s : State) : MomentKeeps s (overrideIfReached s) := by
  unfold overrideIfReached
  split
  · refine MomentKeeps.trans ?_ (runPass_momentKeeps _)
    exact ⟨rfl, rfl, .inr rfl, rfl, fun p hp hw => ⟨p, hp, hw, rfl⟩, fun _ => ⟨rfl, rfl, rfl, rfl⟩, .inl rfl, rfl, id⟩
  · exact .refl s

theorem checkDue_momentKeeps (s : State) : MomentKeeps s (checkDue s) := by
  unfold checkDue
  split
  · refine ⟨rfl, rfl, .inl rfl, rfl, fun p hp hw => ?_, fun _ => ⟨rfl, rfl, rfl, rfl⟩, .inl rfl, rfl, id⟩
    obtain ⟨q, hq, rfl⟩ := List.mem_map.mp hp
    unfold dueAt at hw ⊢
    split at hw
    · cases hw
    · next hn => exact ⟨q, hq, hw, by rw [if_neg hn]⟩
  · exact .refl s

theorem endIfReached_momentKeeps (s : State) : MomentKeeps s (endIfReached s) := by
  unfold endIfReached
  split
  · exact endActive_momentKeeps _ _ _ s
  · exact .refl s

theorem startIfReached_momentKeeps (s : State) : MomentKeeps s (startIfReached s) := by
  unfold startIfReached
  split
  · exact startFirst_momentKeeps s
  · exact .refl s

theorem takeReached_momentKeeps (first : Option Nat) (s : State) : MomentKeeps s (takeReached first s) := by
  rcases takeReached_cases s first with ⟨_, e⟩ | ⟨_, _, e⟩ | ⟨_, _, e⟩ <;> rw [e]
  · exact .refl s
  · exact endIfReached_momentKeeps s
  · exact (endIfReached_momentKeeps s).trans (startIfReached_momentKeeps _)

theorem takeMoment_momentKeeps {m : ClockMove} (hm : m.bySet = false) (o : Moment) (s : State) : MomentKeeps s (takeMoment m s o) := by
  cases o <;> (unfold takeMoment; dsimp only; split)
  case eventQueue.isTrue =>
    rw [eventMoments, hm]
    exact takeReached_momentKeeps _ s
  case planTable.isTrue => exact checkDue_momentKeeps s
  case tally.isTrue =>
    unfold settlementIfReached
    split
    · exact passSettlement_momentKeeps s
    · exact .refl s
  case halfHour.isTrue => exact runPass_momentKeeps s
  case limit.isTrue => exact overrideIfReached_momentKeeps s
  all_goals exact .refl s

theorem deliver_momentKeeps {m : ClockMove} (hm : m.bySet = false) (order : List Moment) (s : State) : MomentKeeps s (deliver order m s) :=
  foldl_keeps_pred (MomentKeeps s) _ order (fun u o _ hu => hu.trans (takeMoment_momentKeeps hm o u)) s (.refl s)

/-- What one moment of a delivery establishes, and every moment keeps, holds after it. -/
theorem deliver_establishes {m : ClockMove} (hm : m.bySet = false) {P : State → Prop} (o : Moment) (order : List Moment) (ho : o ∈ order)
    (hest : ∀ u, u.dck = s.dck → P (takeMoment m u o)) (hkeep : ∀ u w, MomentKeeps u w → P u → P w) : P (deliver order m s) := by
  obtain ⟨l1, l2, rfl⟩ := List.append_of_mem ho
  have h1 := deliver_momentKeeps hm l1 s
  have h2 := deliver_momentKeeps hm l2 (takeMoment m (deliver l1 m s) o)
  have : deliver (l1 ++ o :: l2) m s = deliver l2 m (takeMoment m (deliver l1 m s) o) := by simp [deliver]
  rw [this]
  exact hkeep _ _ h2 (hest _ h1.dck)

/-! ### What the moments apart from the Event Queue's keep -/

/-- The queue of events, the Grid Link and the Results List, which the Event Queue's moment alone changes. -/
def eventPart (s : State) : List EventRecord × Port × List Result := (s.evq, s.grid, s.tly.results)

theorem runPass_eventPart (s : State) : eventPart (runPass s) = eventPart s := by
  simp only [eventPart, runPass_evq, runPass_grid]
  rw [runPass_tly_rest]

theorem takeMoment_eventPart (m : ClockMove) {o : Moment} (ho : o ≠ .eventQueue) (s : State) : eventPart (takeMoment m s o) = eventPart s := by
  cases o with
  | eventQueue => exact absurd rfl ho
  | planTable =>
    unfold takeMoment checkDue
    dsimp only
    split
    · split <;> rfl
    · rfl
  | tally =>
    unfold takeMoment settlementIfReached
    dsimp only
    split
    · split
      · cases h : activeRecord s.evq with
        | none => simp only [passSettlement, h]
        | some r =>
          have hs : eventPart (settled r s) = eventPart s := by simp [eventPart]
          rw [passSettlement_eq s h]
          split
          · rw [runPass_eventPart, hs]
          · exact hs
      · rfl
    · rfl
  | halfHour =>
    unfold takeMoment
    dsimp only
    split
    · exact runPass_eventPart s
    · rfl
  | limit =>
    unfold takeMoment overrideIfReached
    dsimp only
    split
    · split
      · exact runPass_eventPart _
      · rfl
    · rfl

theorem deliver_eventPart (m : ClockMove) {l : List Moment} (hl : .eventQueue ∉ l) (s : State) : eventPart (deliver l m s) = eventPart s :=
  foldl_keeps_pred (fun u => eventPart u = eventPart s) _ l
    (fun u _ ho hu => (takeMoment_eventPart m (fun h => hl (h ▸ ho)) u).trans hu) s rfl

end Sys2Proof.RoutePlans
end

section
/-! The Event Queue's moment at a counted second (R65, R67), and the second as a whole (R156, R160). -/

namespace Sys2Proof.RoutePlans

open Sys2Proof Sys2Proof.Machine

/-! ### The Event Queue's moment -/

variable (first : Option Nat) (now : Nat) (q : List EventRecord) (s : State)

/-- The record that ends: the first one, ACTIVE with its end reached, when no request goes before it (R67, log 35). -/
def endingRecord : Option EventRecord := q.head?.filter fun r => decide (first ≠ some r.id ∧ r.state = .active ∧ r.stop ≤ now)

/-- The queue once that record has left it. -/
def queueLeft : List EventRecord := if (endingRecord first now q).isSome then q.tail else q

/-- The record that starts: the first one left, PENDING with its start reached, when no request goes before it (R65, log 35). -/
def startingRecord : Option EventRecord :=
  (queueLeft first now q).head?.filter fun r => decide (first ≠ some r.id ∧ r.state = .pending ∧ r.start ≤ now)

/-- The state once the ending record has ended. -/
def endTaken : State :=
  match endingRecord first s.dck.depotTime s.evq with
  | some r => endActive r .complete r.stop s
  | none => s

variable {first now q s}

theorem endingRecord_some {r : EventRecord} (h : endingRecord first now q = some r) :
    q.head? = some r ∧ first ≠ some r.id ∧ r.state = .active ∧ r.stop ≤ now := by
  simpa [endingRecord, Option.filter_eq_some_iff] using h

theorem startingRecord_some {r : EventRecord} (h : startingRecord first now q = some r) :
    (queueLeft first now q).head? = some r ∧ first ≠ some r.id ∧ r.state = .pending ∧ r.start ≤ now := by
  simpa [startingRecord, Option.filter_eq_some_iff] using h

theorem endActive_eventPart (r : EventRecord) (cause : EndCause) (n : Nat) (s : State) :
    (endActive r cause n s).evq = s.evq.erase r ∧ (endActive r cause n s).grid = s.grid.raise (endedNotice r cause n) := by
  simp [endActive_eq]

theorem endTaken_evq : (endTaken first s).evq = queueLeft first s.dck.depotTime s.evq := by
  unfold endTaken queueLeft
  cases h : endingRecord first s.dck.depotTime s.evq with
  | none => rfl
  | some r =>
    obtain ⟨hq, -⟩ := endingRecord_some h
    simp only [(endActive_eventPart r .complete r.stop s).1, Option.isSome_some, if_true]
    cases hs : s.evq with
    | nil => simp [hs] at hq
    | cons a l =>
      obtain rfl : a = r := by simpa [hs] using hq
      simp

theorem endTaken_dck : (endTaken first s).dck = s.dck := by
  unfold endTaken
  split
  · exact (endActive_momentKeeps _ _ _ s).dck
  · rfl

theorem endingRecord_cons (r : EventRecord) (rest : List EventRecord) : endingRecord first now (r :: rest) =
    if first ≠ some r.id ∧ r.state = .active ∧ r.stop ≤ now then some r else none := by
  simp only [endingRecord, List.head?_cons, Option.filter, decide_eq_true_eq]

/-- The first record, when it is PENDING with its start reached and no request goes before it. -/
theorem filter_start_cons (r : EventRecord) :
    ((some r).filter fun r => decide (first ≠ some r.id ∧ r.state = .pending ∧ r.start ≤ now)) =
      if first ≠ some r.id ∧ r.state = .pending ∧ r.start ≤ now then some r else none := by
  simp only [Option.filter, decide_eq_true_eq]

theorem headNamed_cons {r : EventRecord} {rest : List EventRecord} (h : s.evq = r :: rest) : headNamed first s = true ↔ first = some r.id := by
  simp [headNamed, h]

/-- Where no request goes before the first record, its end is taken just when it ends. -/
theorem endIfReached_eq_endTaken (h : headNamed first s = false) : endIfReached s = endTaken first s := by
  unfold endTaken
  cases hq : s.evq with
  | nil => rw [endIfReached_nil s hq]; rfl
  | cons r rest =>
    have hne : first ≠ some r.id := fun hf => by simp [(headNamed_cons hq).mpr hf] at h
    rw [endIfReached_cons s hq, endingRecord_cons]
    by_cases hr : r.state = .active ∧ r.stop ≤ s.dck.depotTime
    · rw [if_pos hr, if_pos ⟨hne, hr⟩]
    · rw [if_neg hr, if_neg fun hc => hr hc.2]

/-- Where no request goes before the first record, it starts just when its start is reached. -/
theorem startIfReached_eq (h : headNamed first s = false) :
    startIfReached s = if (s.evq.head?.filter fun r => decide (first ≠ some r.id ∧ r.state = .pending ∧ r.start ≤ s.dck.depotTime)).isSome
      then startFirst s else s := by
  cases hq : s.evq with
  | nil => simp [startIfReached, startReached, hq]
  | cons r rest =>
    have hne : first ≠ some r.id := fun hf => by simp [(headNamed_cons hq).mpr hf] at h
    rw [List.head?_cons, filter_start_cons]
    by_cases hr : r.state = .pending ∧ r.start ≤ s.dck.depotTime
    · rw [if_pos (c := _ ∧ _) ⟨hne, hr⟩]
      simp [startIfReached, startReached, hq, hr]
    · rw [if_neg (c := _ ∧ _) fun hc => hr hc.2]
      simpa [startIfReached, startReached, hq] using fun h1 h2 => absurd ⟨h1, h2⟩ hr

/-- A first record that a request goes before neither ends nor starts. -/
theorem notTaken_of_headNamed (h : headNamed first s = true) :
    endingRecord first now s.evq = none ∧ startingRecord first now s.evq = none := by
  cases hq : s.evq with
  | nil => simp [headNamed, hq] at h
  | cons r rest =>
    have hf : first = some r.id := (headNamed_cons hq).mp h
    have he : endingRecord first now (r :: rest) = none := by
      rw [endingRecord_cons, if_neg fun hc => hc.1 hf]
    refine ⟨he, ?_⟩
    simp only [startingRecord, queueLeft, he, Option.isSome_none, Bool.false_eq_true, if_false, List.head?_cons]
    rw [filter_start_cons, if_neg fun hc => hc.1 hf]

/-- The end and the start that are reached, but for those of the record named, in full. -/
theorem takeReached_eq : takeReached first s =
    if (startingRecord first s.dck.depotTime s.evq).isSome then startFirst (endTaken first s) else endTaken first s := by
  have hstart : (startingRecord first s.dck.depotTime s.evq) = ((endTaken first s).evq.head?.filter fun r =>
      decide (first ≠ some r.id ∧ r.state = .pending ∧ r.start ≤ (endTaken first s).dck.depotTime)) := by
    rw [endTaken_evq, endTaken_dck]
    rfl
  rcases takeReached_cases s first with ⟨h, e⟩ | ⟨h, h1, e⟩ | ⟨h, h1, e⟩ <;> rw [e]
  · obtain ⟨hend, hst⟩ := notTaken_of_headNamed (now := s.dck.depotTime) h
    rw [hst, endTaken, hend]
    rfl
  · rw [endIfReached_eq_endTaken h] at h1 ⊢
    have hnone : startingRecord first s.dck.depotTime s.evq = none := by
      rw [hstart]
      cases hq : (endTaken first s).evq with
      | nil => rfl
      | cons r rest => rw [List.head?_cons, filter_start_cons, if_neg fun hc => hc.1 ((headNamed_cons hq).mp h1)]
    rw [hnone]
    rfl
  · rw [endIfReached_eq_endTaken h] at h1 ⊢
    rw [startIfReached_eq h1, hstart]

/-- The queue after the moment: the record that starts is ACTIVE from now, the one that ended is gone. -/
theorem takeReached_evq : (takeReached first s).evq =
    match startingRecord first s.dck.depotTime s.evq with
    | some r => r.started s.dck.depotTime :: (queueLeft first s.dck.depotTime s.evq).tail
    | none => queueLeft first s.dck.depotTime s.evq := by
  rw [takeReached_eq]
  cases h : startingRecord first s.dck.depotTime s.evq with
  | none => exact endTaken_evq
  | some r =>
    obtain ⟨hq, -⟩ := startingRecord_some h
    rw [← endTaken_evq] at hq ⊢
    cases hs : (endTaken first s).evq with
    | nil => simp [hs] at hq
    | cons a l =>
      obtain rfl : a = r := by simpa [hs] using hq
      simp [startFirst, hs, endTaken_dck]

theorem runPass_results : (runPass s).tly.results = s.tly.results := by rw [runPass_tly_rest]

/-- What the start of the first record leaves of the Grid Link, the Tally Unit and the echo test (R66). -/
theorem startFirst_spec {r : EventRecord} {rest : List EventRecord} (h : s.evq = r :: rest) :
    (startFirst s).grid = s.grid.raise (eventNotice .started (r.started s.dck.depotTime)) ∧
      (startFirst s).tly.results = s.tly.results ∧
      (startFirst s).tly.tally.map bare = some (bare (Tally.opened (r.started s.dck.depotTime) s.dck.depotTime)) ∧
      (startFirst s).dnc.echo.state ≠ .running := by
  simp only [startFirst, h, raiseBoth_grid, raiseBoth_tly, raiseBoth_dnc, runPass_grid, runPass_echo, runPass_tally]
  exact ⟨trivial, runPass_results, rfl, abortEcho_running _⟩

theorem addResult_getLast (x : Result) (y : Tly) : (y.addResult x).results.getLast? = some x := by
  unfold Tly.addResult
  split <;> simp

/-- The newest result after an end with an open tally (R150). -/
theorem endActive_result {y : Tally} (hy : s.tly.tally = some y) (r : EventRecord) (cause : EndCause) (n : Nat) :
    (endActive r cause n s).tly.results.getLast? =
      some (resultOf r cause n s.rot.yieldCount (closedAt s.tly.meterWeight s.dck.depotTime r n y)) := by
  obtain ⟨htly, -, -⟩ := beforeEndPass_open s hy r cause n
  rw [endActive_eq, raiseBoth_tly, runPass_results, htly]
  exact addResult_getLast _ _

/-- The Grid Link after the end that is taken. -/
theorem endTaken_grid : (endTaken first s).grid = match endingRecord first s.dck.depotTime s.evq with
    | some r => s.grid.raise (endedNotice r .complete r.stop)
    | none => s.grid := by
  unfold endTaken
  split
  · exact (endActive_eventPart _ _ _ s).2
  · rfl

theorem endTaken_cons_of_starting {r : EventRecord} (h : startingRecord first s.dck.depotTime s.evq = some r) :
    ∃ rest, (endTaken first s).evq = r :: rest := by
  obtain ⟨hq, -⟩ := startingRecord_some h
  rw [← endTaken_evq] at hq
  cases hs : (endTaken first s).evq with
  | nil => simp [hs] at hq
  | cons a l => exact ⟨l, by simpa [hs] using hq⟩

/-- The Grid Link after the moment: the notice ENDED, then the notice STARTED (R76). -/
theorem takeReached_grid : (takeReached first s).grid = match startingRecord first s.dck.depotTime s.evq with
    | some r => (endTaken first s).grid.raise (eventNotice .started (r.started s.dck.depotTime))
    | none => (endTaken first s).grid := by
  rw [takeReached_eq]
  cases h : startingRecord first s.dck.depotTime s.evq with
  | none => rfl
  | some r =>
    obtain ⟨rest, hq⟩ := endTaken_cons_of_starting h
    have := (startFirst_spec hq).1
    rw [endTaken_dck] at this
    simpa using this

/-- The Results List after the moment is the one after the end. -/
theorem takeReached_results : (takeReached first s).tly.results = (endTaken first s).tly.results := by
  rw [takeReached_eq]
  cases h : startingRecord first s.dck.depotTime s.evq with
  | none => rfl
  | some r =>
    obtain ⟨rest, hq⟩ := endTaken_cons_of_starting h
    simpa using (startFirst_spec hq).2.1

/-- A record that starts has its tally open and no echo test running (R66). -/
theorem takeReached_started {r : EventRecord} (h : startingRecord first s.dck.depotTime s.evq = some r) :
    (takeReached first s).tly.tally.map bare = some (bare (Tally.opened (r.started s.dck.depotTime) s.dck.depotTime)) ∧
      (takeReached first s).dnc.echo.state ≠ .running := by
  obtain ⟨rest, hq⟩ := endTaken_cons_of_starting h
  have hs := startFirst_spec hq
  rw [endTaken_dck] at hs
  rw [takeReached_eq, h]
  exact hs.2.2

/-- Where the first record is ACTIVE and does not end, the moment takes nothing. -/
theorem takeReached_of_active {r : EventRecord} (hr : s.evq.head? = some r) (ha : r.state = .active)
    (he : endingRecord first s.dck.depotTime s.evq = none) : takeReached first s = s := by
  have hs : startingRecord first s.dck.depotTime s.evq = none := by
    rw [startingRecord, queueLeft, he]
    simp only [Option.isSome_none, Bool.false_eq_true, if_false, hr]
    rw [filter_start_cons, if_neg fun hc => by simp [ha] at hc]
  rw [takeReached_eq, hs, endTaken, he]
  rfl

/-! ### The tally over a delivery -/

/-- A tally once the boundary of its interval, if the first record is ACTIVE and depot time has reached it, is passed (R148). -/
def settledTally (w now : Nat) (q : List EventRecord) (y : Tally) : Tally :=
  match activeRecord q with
  | some r => passedAt w now r y
  | none => y

theorem passedAt_bare (w now : Nat) (r : EventRecord) (y : Tally) : passedAt w now r (bare y) = bare (passedAt w now r y) := by
  have h : judged w 300 (bare y) = bare (judged w 300 y) := rfl
  unfold passedAt
  by_cases hc : y.interval.start + 300 < r.stop ∧ y.interval.start + 300 ≤ now
  · rw [if_pos hc, if_pos (by exact hc), h]
    rfl
  · rw [if_neg hc, if_neg (by exact hc)]

theorem settledTally_bare (w now : Nat) (q : List EventRecord) (y : Tally) : settledTally w now q (bare y) = bare (settledTally w now q y) := by
  unfold settledTally
  cases activeRecord q with
  | none => rfl
  | some r => exact passedAt_bare w now r y

/-- The settlement boundary passes the boundary of the open tally when it is reached (R148). -/
theorem settlementIfReached_tally : (settlementIfReached s).tly.tally.map bare =
    (s.tly.tally.map bare).map (settledTally s.tly.meterWeight s.dck.depotTime s.evq) := by
  cases ht : s.tly.tally with
  | none => simp [settlementIfReached, boundaryReached, ht]
  | some y =>
    have hb := settledTally_bare s.tly.meterWeight s.dck.depotTime s.evq y
    simp only [Option.map_some, hb]
    cases hr : activeRecord s.evq with
    | none => simp [settlementIfReached, boundaryReached, hr, ht, settledTally]
    | some r =>
      have hiff := boundaryReached_open s hr ht
      unfold settlementIfReached
      by_cases hc : y.interval.start + 300 < r.stop ∧ y.interval.start + 300 ≤ s.dck.depotTime
      · have hs : (settled r s).tly.tally.map bare = some (bare (settledTally s.tly.meterWeight s.dck.depotTime s.evq y)) := by
          simp only [settled_tly, ht, Option.map_some, passBoundary_eq, settledTally, hr, passedAt, if_pos hc]
        rw [if_pos (hiff.mpr hc), passSettlement_eq s hr]
        split
        · rw [runPass_tally, hs]
        · exact hs
      · rw [if_neg (mt hiff.mp hc), ht]
        simp [settledTally, hr, passedAt, if_neg hc]

end Sys2Proof.RoutePlans
end

section
/-! A counted depot second (R156, R160): the delivery in every order, split at the moment that matters. -/

namespace Sys2Proof.RoutePlans

open Sys2Proof Sys2Proof.Machine

variable {m : ClockMove} {s u : State}

/-! ### Splitting a delivery at one moment -/

/-- Every order of the moments has each moment once. -/
theorem order_split {order : List Moment} (h : order.Perm Moment.all) (o : Moment) :
    ∃ l1 l2, order = l1 ++ o :: l2 ∧ o ∉ l1 ∧ o ∉ l2 := by
  have hmem : o ∈ order := h.mem_iff.mpr (by cases o <;> decide)
  have hnd : order.Nodup := h.nodup_iff.mpr (by decide)
  obtain ⟨l1, l2, rfl⟩ := List.append_of_mem hmem
  have := (List.nodup_middle.mp hnd).notMem
  exact ⟨l1, l2, rfl, fun hc => this (List.mem_append_left _ hc), fun hc => this (List.mem_append_right _ hc)⟩

theorem deliver_split (l1 l2 : List Moment) (o : Moment) (m : ClockMove) (s : State) :
    deliver (l1 ++ o :: l2) m s = deliver l2 m (takeMoment m (deliver l1 m s) o) := by simp [deliver]

theorem takeMoment_eventQueue (hf : m.forward s.dck.depotTime = true) (hm : m.bySet = false) :
    takeMoment m s .eventQueue = takeReached m.requestFirst s := by
  simp [takeMoment, hf, eventMoments, hm]

/-! ### The tally -/

theorem takeMoment_tally (hf : m.forward s.dck.depotTime = true) : (takeMoment m s .tally).tly.tally.map bare =
    (s.tly.tally.map bare).map (settledTally s.tly.meterWeight s.dck.depotTime s.evq) := by
  rw [← settlementIfReached_tally]
  simp [takeMoment, hf]

/-- The moments apart from the Event Queue's and the tally's leave the tally but for its peak shortfall. -/
theorem takeMoment_tally_of_ne {o : Moment} (ho : o ≠ .eventQueue) (ht : o ≠ .tally) :
    (takeMoment m s o).tly.tally.map bare = s.tly.tally.map bare := by
  cases o with
  | eventQueue => exact absurd rfl ho
  | tally => exact absurd rfl ht
  | planTable =>
    unfold takeMoment checkDue
    dsimp only
    split
    · split <;> rfl
    · rfl
  | halfHour =>
    unfold takeMoment
    dsimp only
    split
    · exact runPass_tally s
    · rfl
  | limit =>
    unfold takeMoment overrideIfReached
    dsimp only
    split
    · split
      · exact runPass_tally _
      · rfl
    · rfl

/-- Moments apart from the Event Queue's leave the tally within any set of tallies closed under the passing of the boundary. -/
theorem deliver_tally_within (hm : m.bySet = false) (hf : m.forward s.dck.depotTime = true) {Q : Option Tally → Prop}
    (hQ : ∀ y, Q y → Q (y.map (settledTally s.tly.meterWeight s.dck.depotTime s.evq))) {l : List Moment} (hl : .eventQueue ∉ l)
    (hs : Q (s.tly.tally.map bare)) : Q ((deliver l m s).tly.tally.map bare) := by
  have h := foldl_keeps_pred (fun u => Q (u.tly.tally.map bare) ∧ MomentKeeps s u ∧ u.evq = s.evq) (takeMoment m) l
    (fun u o ho ⟨hq, hk, he⟩ => by
      have hne : o ≠ .eventQueue := fun hc => hl (hc ▸ ho)
      refine ⟨?_, hk.trans (takeMoment_momentKeeps hm o u), (congrArg Prod.fst (takeMoment_eventPart m hne u)).trans he⟩
      by_cases ht : o = .tally
      · rw [ht, takeMoment_tally (by rwa [hk.dck]), hk.dck, hk.weight, he]
        exact hQ _ hq
      · rwa [takeMoment_tally_of_ne hne ht]) s ⟨hs, .refl s, rfl⟩
  exact h.1

/-- Where the first record is ACTIVE and does not end, a delivery passes the boundary of its interval when it is reached, in every order. -/
theorem deliver_tally_active (hm : m.bySet = false) (hf : m.forward s.dck.depotTime = true) {order : List Moment}
    (ho : order.Perm Moment.all) {r : EventRecord} (hr : s.evq.head? = some r) (ha : r.state = .active)
    (he : endingRecord m.requestFirst s.dck.depotTime s.evq = none) :
    (deliver order m s).tly.tally.map bare = (s.tly.tally.map bare).map (passedAt s.tly.meterWeight s.dck.depotTime r) := by
  have idle : ∀ u : State, u.dck = s.dck → u.evq = s.evq → takeMoment m u .eventQueue = u := fun u hd hq => by
    rw [takeMoment_eventQueue (by rwa [hd]) hm]
    exact takeReached_of_active (by rwa [hq]) ha (by rwa [hd, hq])
  have keep : ∀ (l : List Moment), .tally ∉ l → ∀ u : State, u.dck = s.dck → u.evq = s.evq →
      (deliver l m u).tly.tally.map bare = u.tly.tally.map bare ∧ (deliver l m u).evq = s.evq := by
    intro l hl u hd hq
    have h := foldl_keeps_pred (fun w => w.tly.tally.map bare = u.tly.tally.map bare ∧ w.dck = s.dck ∧ w.evq = s.evq) (takeMoment m) l
      (fun w o ho ⟨ht, hwd, hwq⟩ => by
        by_cases hne : o = .eventQueue
        · rw [hne, idle w hwd hwq]
          exact ⟨ht, hwd, hwq⟩
        · have hnt : o ≠ .tally := fun hc => hl (hc ▸ ho)
          refine ⟨?_, (takeMoment_momentKeeps hm o w).dck.trans hwd, (congrArg Prod.fst (takeMoment_eventPart m hne w)).trans hwq⟩
          rw [takeMoment_tally_of_ne hne hnt, ht]) u ⟨rfl, hd, hq⟩
    exact ⟨h.1, h.2.2⟩
  obtain ⟨l1, l2, rfl, h1, h2⟩ := order_split ho .tally
  have k1 := deliver_momentKeeps hm l1 s
  obtain ⟨t1, q1⟩ := keep l1 h1 s rfl rfl
  have kt := takeMoment_momentKeeps hm .tally (deliver l1 m s)
  have qt := congrArg Prod.fst (takeMoment_eventPart m (o := .tally) (by decide) (deliver l1 m s))
  rw [deliver_split, (keep l2 h2 _ (kt.dck.trans k1.dck) (qt.trans q1)).1, takeMoment_tally (by rwa [k1.dck]), t1, k1.dck, k1.weight, q1]
  have hsettle : settledTally s.tly.meterWeight s.dck.depotTime s.evq = passedAt s.tly.meterWeight s.dck.depotTime r := by
    funext y
    simp only [settledTally, activeRecord_of_head hr ha]
  rw [hsettle]

/-! ### The Event Queue's part -/

/-- A delivery, in every order, around the Event Queue's moment: what the moments before it leave, and what the moments after it leave. -/
theorem deliver_around (hm : m.bySet = false) (hf : m.forward s.dck.depotTime = true) {order : List Moment} (ho : order.Perm Moment.all) :
    ∃ l1 l2, .eventQueue ∉ l1 ∧ .eventQueue ∉ l2 ∧ deliver order m s = deliver l2 m (takeReached m.requestFirst (deliver l1 m s)) := by
  obtain ⟨l1, l2, rfl, h1, h2⟩ := order_split ho .eventQueue
  refine ⟨l1, l2, h1, h2, ?_⟩
  rw [deliver_split, takeMoment_eventQueue (by rwa [(deliver_momentKeeps hm l1 s).dck]) hm]

/-- What the moments without the Event Queue's leave of its part. -/
theorem deliver_keeps_events {l : List Moment} (hl : .eventQueue ∉ l) (s : State) :
    (deliver l m s).evq = s.evq ∧ (deliver l m s).grid = s.grid ∧ (deliver l m s).tly.results = s.tly.results := by
  simpa [eventPart] using deliver_eventPart m hl s

/-- The queue of events and the Grid Link after a delivery in any order (R65, R67, R76). -/
theorem deliver_events (hm : m.bySet = false) (hf : m.forward s.dck.depotTime = true) {order : List Moment} (ho : order.Perm Moment.all) :
    (deliver order m s).evq = (takeReached m.requestFirst s).evq ∧ (deliver order m s).grid = (takeReached m.requestFirst s).grid := by
  obtain ⟨l1, l2, h1, h2, e⟩ := deliver_around hm hf ho
  obtain ⟨q1, g1, -⟩ := deliver_keeps_events (m := m) h1 s
  obtain ⟨q2, g2, -⟩ := deliver_keeps_events (m := m) h2 (takeReached m.requestFirst (deliver l1 m s))
  have k1 := (deliver_momentKeeps hm l1 s).dck
  rw [e, q2, g2, takeReached_evq, takeReached_evq, takeReached_grid, takeReached_grid, endTaken_grid, endTaken_grid, k1, q1, g1]
  exact ⟨rfl, rfl⟩

/-- Without an end the Results List stays (R152). -/
theorem deliver_results (hm : m.bySet = false) (hf : m.forward s.dck.depotTime = true) {order : List Moment} (ho : order.Perm Moment.all)
    (he : endingRecord m.requestFirst s.dck.depotTime s.evq = none) : (deliver order m s).tly.results = s.tly.results := by
  obtain ⟨l1, l2, h1, h2, e⟩ := deliver_around hm hf ho
  obtain ⟨q1, -, r1⟩ := deliver_keeps_events (m := m) h1 s
  have k1 := (deliver_momentKeeps hm l1 s).dck
  rw [e, (deliver_keeps_events h2 _).2.2, takeReached_results, endTaken, k1, q1, he]
  exact r1

/-- With a start the tally is the one it opens, and no echo test runs (R66, R142). -/
theorem deliver_started (hm : m.bySet = false) (hf : m.forward s.dck.depotTime = true) {order : List Moment} (ho : order.Perm Moment.all)
    {r : EventRecord} (hr : startingRecord m.requestFirst s.dck.depotTime s.evq = some r) :
    (deliver order m s).dnc.echo.state ≠ .running ∧ (deliver order m s).tly.tally.map bare =
      some (bare (Tally.opened (r.started s.dck.depotTime) s.dck.depotTime)) := by
  obtain ⟨l1, l2, h1, h2, e⟩ := deliver_around hm hf ho
  obtain ⟨q1, -, -⟩ := deliver_keeps_events (m := m) h1 s
  have k1 := (deliver_momentKeeps hm l1 s).dck
  obtain ⟨ht, hecho⟩ := takeReached_started (first := m.requestFirst) (s := deliver l1 m s) (r := r) (by rw [k1, q1]; exact hr)
  have kt := (takeReached_momentKeeps m.requestFirst (deliver l1 m s)).dck.trans k1
  rw [k1] at ht
  rw [e]
  refine ⟨fun hc => hecho ((deliver_momentKeeps hm l2 _).echo hc), ?_⟩
  refine deliver_tally_within hm (by rwa [kt])
    (Q := fun y => y = some (bare (Tally.opened (r.started s.dck.depotTime) s.dck.depotTime))) ?_ h2 ht
  rintro _ rfl
  rw [Option.map_some, settledTally_bare, kt]
  unfold settledTally
  split
  · rw [passedAt, if_neg]
    simp [Tally.opened, Interval.opened]
  · rfl

/-! ### The result of an end -/

theorem judged_bare (w length : Nat) (y : Tally) : judged w length (bare y) = bare (judged w length y) := by
  cases length <;> rfl

theorem closedAt_bare (w now : Nat) (r : EventRecord) (n : Nat) (y : Tally) : closedAt w now r n (bare y) = bare (closedAt w now r n y) := by
  unfold closedAt
  rw [passedAt_bare, judged_bare]
  rfl

/-- With the next boundary still ahead a passed boundary is passed once. -/
theorem passedAt_twice {w now : Nat} {r : EventRecord} {y : Tally} (h : now < y.interval.start + 600) :
    passedAt w now r (passedAt w now r y) = passedAt w now r y := by
  by_cases hc : y.interval.start + 300 < r.stop ∧ y.interval.start + 300 ≤ now
  · have hs : (passedAt w now r y).interval.start = y.interval.start + 300 := by
      rw [passedAt, if_pos hc]
      rfl
    rw [passedAt, if_neg (by omega)]
  · have hs : passedAt w now r y = y := by rw [passedAt, if_neg hc]
    rw [hs, hs]

/-- The newest result after a delivery in which the record ends, with the next boundary still ahead (R149, R150). -/
theorem deliver_result (hm : m.bySet = false) (hf : m.forward s.dck.depotTime = true) {order : List Moment} (ho : order.Perm Moment.all)
    {r : EventRecord} (hr : endingRecord m.requestFirst s.dck.depotTime s.evq = some r) {y : Tally} (hy : s.tly.tally = some y)
    (hnext : s.dck.depotTime < y.interval.start + 600) : ∃ yields z,
      (deliver order m s).tly.results.getLast? = some (resultOf r .complete r.stop yields z) ∧
        bare z = bare (closedAt s.tly.meterWeight s.dck.depotTime r r.stop y) := by
  obtain ⟨l1, l2, h1, h2, e⟩ := deliver_around hm hf ho
  obtain ⟨q1, -, -⟩ := deliver_keeps_events (m := m) h1 s
  have k1 := deliver_momentKeeps hm l1 s
  obtain ⟨hq, -, ha, -⟩ := endingRecord_some hr
  have hwithin := deliver_tally_within hm hf
    (Q := fun t => t = some (bare y) ∨ t = some (bare (passedAt s.tly.meterWeight s.dck.depotTime r y))) (l := l1)
    (by
      have hsettle : settledTally s.tly.meterWeight s.dck.depotTime s.evq = passedAt s.tly.meterWeight s.dck.depotTime r := by
        funext y
        simp only [settledTally, activeRecord_of_head hq ha]
      rintro _ (rfl | rfl) <;> rw [hsettle, Option.map_some, passedAt_bare]
      · exact .inr rfl
      · rw [passedAt_twice hnext]
        exact .inr rfl) h1 (.inl (by rw [hy]; rfl))
  obtain ⟨z, hz, hbare⟩ : ∃ z, (deliver l1 m s).tly.tally = some z ∧ bare (closedAt s.tly.meterWeight s.dck.depotTime r r.stop z) =
      bare (closedAt s.tly.meterWeight s.dck.depotTime r r.stop y) := by
    rcases hwithin with h | h <;> obtain ⟨z, hz, hb⟩ := Option.map_eq_some_iff.mp h <;> refine ⟨z, hz, ?_⟩ <;>
      rw [← closedAt_bare, hb, closedAt_bare]
    unfold closedAt
    rw [passedAt_twice hnext]
  refine ⟨(deliver l1 m s).rot.yieldCount, _, ?_, hbare⟩
  rw [e, (deliver_keeps_events h2 _).2.2, takeReached_results, endTaken, k1.dck, q1, hr, ← k1.weight, ← k1.dck]
  exact endActive_result hz r .complete r.stop

/-! ### The counted second -/

/-- The state in which the moments of a counted second are taken: the clock moved on, and a midnight's rollover taken (R156, R159). -/
def secondStart (s : State) : State :=
  let moved := { s.drawn with dck.depotTime := s.dck.depotTime + 1, dck.depotDivider := 0 }
  if secondOfDay (s.dck.depotTime + 1) = 0 then rollover moved else moved

/-- The move of the clock at a counted second. -/
def secondMove (s : State) : ClockMove :=
  { old := s.dck.depotTime, wasUnset := false, bySet := false, requestFirst := eventGoingFirst s }

theorem takeDepotSecond_counted (hr : s.dck.running = true) (ht : s.dck.depotTime < depotTimeMax) :
    takeDepotSecond s = deliver (drawOrder Moment.all s) (secondMove s) (secondStart s) := by
  unfold takeDepotSecond countDepotSecond
  rw [if_pos (by exact ⟨hr, ht⟩)]
  rfl

theorem takeDepotSecond_uncounted (h : ¬(s.dck.running = true ∧ s.dck.depotTime < depotTimeMax)) : takeDepotSecond s = s.drawn := by
  unfold takeDepotSecond countDepotSecond
  rw [if_neg (by exact h)]

/-- A rollover leaves every record but for its day throughput, and of the site limits changes what R119, R132 and R133 say. -/
theorem rollover_dock (s : State) (d : Dock) : (rollover s).dock d = { s.dock d with dayThroughput := 0 } := by
  simp [rollover, State.dock, settleExperm]

theorem rollover_slu (s : State) : (rollover s).slu = { s.slu with
    tableValid := s.slu.tableValid && s.slu.daily, tripSeconds := 0, experm := (rollover s).slu.experm } := by
  simp [rollover]

/-- What the start of a counted second leaves as it is. -/
theorem secondStart_frame (s : State) : (secondStart s).evq = s.evq ∧ (secondStart s).grid = s.grid ∧ (secondStart s).tly = s.tly ∧
    (secondStart s).dck = { s.dck with depotTime := s.dck.depotTime + 1, depotDivider := 0 } ∧
    (secondStart s).slu.limit = s.slu.limit ∧ (secondStart s).slu.trip = s.slu.trip ∧ (secondStart s).slu.table = s.slu.table := by
  unfold secondStart
  dsimp only
  split
  · obtain ⟨hq, -, -, ht, hd, -, hg, -, -⟩ := rollover_frame { s.drawn with dck.depotTime := s.dck.depotTime + 1, dck.depotDivider := 0 }
    rw [hq, ht, hd, hg, rollover_slu]
    exact ⟨rfl, rfl, rfl, rfl, rfl, rfl, rfl⟩
  · exact ⟨rfl, rfl, rfl, rfl, rfl, rfl, rfl⟩

/-- The day's figures at the start of a counted second: cleared at a midnight, else as they were (R119, R133, R139). -/
theorem secondStart_midnight (s : State) (h : (s.dck.depotTime + 1) % 86400 = 0) : (secondStart s).slu.tripSeconds = 0 ∧
    (secondStart s).slu.tableValid = (s.slu.tableValid && s.slu.daily) ∧ ∀ d : Dock, (secondStart s).dock d = { s.dock d with dayThroughput := 0 } := by
  unfold secondStart
  rw [if_pos (by exact h), rollover_slu]
  exact ⟨rfl, rfl, rollover_dock _⟩

theorem secondStart_within (s : State) (h : (s.dck.depotTime + 1) % 86400 ≠ 0) : (secondStart s).slu = s.slu ∧
    ∀ d : Dock, (secondStart s).dock d = s.dock d := by
  unfold secondStart
  rw [if_neg (by exact h)]
  exact ⟨rfl, fun _ => rfl⟩

theorem secondStart_dock (s : State) (d : Dock) : ((secondStart s).dock d).state = (s.dock d).state ∧
    ((secondStart s).dock d).vehicle = (s.dock d).vehicle ∧ ((secondStart s).dock d).stored = (s.dock d).stored := by
  by_cases h : (s.dck.depotTime + 1) % 86400 = 0
  · rw [(secondStart_midnight s h).2.2]
    exact ⟨rfl, rfl, rfl⟩
  · rw [(secondStart_within s h).2]
    exact ⟨rfl, rfl, rfl⟩

/-! ### The moments with a condition of their own -/

variable {order : List Moment} (hm : m.bySet = false) (hf : m.forward s.dck.depotTime = true) (ho : order.Perm Moment.all)
include hm ho

include hf in
/-- After a delivery no WAITING entry has its point reached (R32). -/
theorem deliver_due (hr : s.dck.running = true) : ∀ p ∈ (deliver order m s).rpt.plans, p.state = .waiting →
    s.dck.depotTime < p.departure - (deliver order m s).rpt.readyLead := by
  have h : ∀ p ∈ (deliver order m s).rpt.plans, p.state = .waiting →
      (deliver order m s).dck.depotTime < p.departure - (deliver order m s).rpt.readyLead := by
    refine deliver_establishes hm (P := fun u => ∀ p ∈ u.rpt.plans, p.state = .waiting → u.dck.depotTime < p.departure - u.rpt.readyLead)
      .planTable order (ho.mem_iff.mpr (by decide)) (fun u hu => ?_) fun u w k hu p hp hw => ?_
    · have hc : takeMoment m u .planTable = u.mapPlans (List.map (dueAt u.rpt.readyLead u.dck.depotTime)) := by
        simp [takeMoment, hu, hf, checkDue, hr]
      rw [hc]
      intro p hp hw
      obtain ⟨q, -, rfl⟩ := List.mem_map.mp hp
      unfold dueAt at hw ⊢
      split at hw
      · cases hw
      · next hn =>
        rw [if_neg hn]
        by_contra hle
        exact hn ⟨hw, Nat.not_lt.mp hle⟩
    · obtain ⟨q, hq, hqw, hqd⟩ := k.waiting p hp hw
      rw [k.dck, k.lead, ← hqd]
      exact hu q hq hqw
  rwa [(deliver_momentKeeps hm order s).dck] at h

include hf in
/-- After a delivery no override stands whose expiry is reached, and one that stands is the one that stood (R121). -/
theorem deliver_limit : ∀ o ∈ (deliver order m s).slu.limit, s.dck.depotTime < o.expiry ∧ s.slu.limit = some o := by
  have k := deliver_momentKeeps hm order s
  have h : ∀ o ∈ (deliver order m s).slu.limit, (deliver order m s).dck.depotTime < o.expiry := by
    refine deliver_establishes hm (P := fun u => ∀ o ∈ u.slu.limit, u.dck.depotTime < o.expiry)
      .limit order (ho.mem_iff.mpr (by decide)) (fun u hu o hmem => ?_) fun u w k hu o hmem => ?_
    · have hc : takeMoment m u .limit = overrideIfReached u := by simp [takeMoment, hu, hf]
      rw [hc] at hmem ⊢
      unfold overrideIfReached at hmem ⊢
      split at hmem
      · simp at hmem
      · next hn =>
        rw [if_neg hn]
        by_contra hle
        exact hn ((overrideReached_iff u).mpr ⟨o, hmem, Nat.not_lt.mp hle⟩)
    · rw [k.dck]
      rcases k.limit with hl | hl <;> rw [hl] at hmem
      · exact hu o hmem
      · cases hmem
  intro o hmem
  refine ⟨k.dck ▸ h o hmem, ?_⟩
  rcases k.limit with hl | hl
  · rw [← hl]
    exact hmem
  · rw [hl] at hmem
    cases hmem

/-- After a delivery into another half hour the last pass is at this uptime (R123). -/
theorem deliver_halfHour (he : m.entersHalfHour s.dck.depotTime = true) : (deliver order m s).alc.previousPass = s.dck.uptime := by
  have h : (deliver order m s).alc.previousPass = (deliver order m s).dck.uptime := by
    refine deliver_establishes hm (P := fun u => u.alc.previousPass = u.dck.uptime) .halfHour order (ho.mem_iff.mpr (by decide))
      (fun u hu => ?_) fun u w k hu => ?_
    · have hc : takeMoment m u .halfHour = runPass u := by simp [takeMoment, hu, he]
      rw [hc, runPass_previousPass, runPass_dck]
    · rw [k.dck]
      rcases k.pass with hp | hp
      · rw [hp, hu]
      · exact hp
  rwa [(deliver_momentKeeps hm order s).dck] at h

end Sys2Proof.RoutePlans
end

section
/-! A counted depot second as the statement has it. -/

namespace Sys2Proof.RoutePlans

open Sys2Proof Sys2Proof.Machine

/-- The first record left, when PENDING and no request goes before it, has its start ahead unless it starts. -/
theorem start_ahead {first : Option Nat} {now : Nat} {q : List EventRecord} (hs : startingRecord first now q = none) :
    ∀ r ∈ (queueLeft first now q).head?, r.state = .pending → first ≠ some r.id → now < r.start := by
  intro r hr hp hne
  by_contra hle
  have := (Option.filter_eq_none_iff.mp hs) r hr
  simp [hne, hp, Nat.not_lt.mp hle] at this

theorem secondMove_forward (s : State) : (secondMove s).forward (secondStart s).dck.depotTime = true := by
  obtain ⟨-, -, -, hd, -⟩ := secondStart_frame s
  rw [hd]
  simp [secondMove, ClockMove.forward]

/-- A second that reaches a half hour of the day enters another half hour, or another day (R123). -/
theorem secondMove_entersHalfHour (s : State) (h : (s.dck.depotTime + 1) % 1800 = 0) :
    (secondMove s).entersHalfHour (s.dck.depotTime + 1) = true := by
  simp only [secondMove, ClockMove.entersHalfHour, Bool.false_or, Bool.or_eq_true]
  by_cases hd : dayNumber s.dck.depotTime = dayNumber (s.dck.depotTime + 1)
  · refine .inl (decide_eq_true ?_)
    simp only [halfHourIndex, secondOfDay, dayNumber] at hd ⊢
    omega
  · exact .inr (decide_eq_true hd)

/-- Settles O35: each clause is a fact of the delivery in any order, from the state at the start of the second. -/
theorem depotSecondDeliversItsMoments : Obligations.DepotSecondDeliversItsMoments := by
  intro s
  refine ⟨fun hrun hlt => ?_, fun h => ?_⟩
  · intro now first
    have hperm : (drawOrder Moment.all s).Perm Moment.all := freeOrder_perm _ _
    have hm : (secondMove s).bySet = false := rfl
    have hfirst : (secondMove s).requestFirst = first := rfl
    have hf := secondMove_forward s
    have k := deliver_momentKeeps hm (drawOrder Moment.all s) (secondStart s)
    have hdue := deliver_due hm hf hperm
    have hlimit := deliver_limit hm hf hperm
    have hhalf := deliver_halfHour (s := secondStart s) hm hperm
    have hevents := deliver_events hm hf hperm
    have hresults := deliver_results hm hf hperm
    have hresult := @deliver_result _ _ hm hf _ hperm
    have hstarted := @deliver_started _ _ hm hf _ hperm
    have hactive := @deliver_tally_active _ _ hm hf _ hperm
    obtain ⟨fq, fg, ft, fd, fl, ftrip, ftable⟩ := secondStart_frame s
    have hnow : (secondStart s).dck.depotTime = now := by rw [fd]
    rw [takeReached_evq, takeReached_grid, endTaken_grid] at hevents
    simp only [hfirst, hnow, fq, fg, ft] at hevents hresults hresult hstarted hactive hdue hlimit hhalf
    refine ⟨_, congrArg Host.Outcome.next (takeDepotSecond_counted hrun hlt), ?_⟩
    generalize deliver (drawOrder Moment.all s) (secondMove s) (secondStart s) = t at *
    obtain ⟨hq, hg⟩ := hevents
    refine ⟨k.dck.trans fd, hdue (by rw [fd]; exact hrun), fun o ho => ?_, ?_, ?_, fun h => ?_, fun h => ?_, fun h => ?_, ?_, ?_, fun d => ?_⟩
    · rw [← fl]
      exact hlimit o ho
    · intro r hr hp hne
      rw [hq] at hr
      cases hs : startingRecord first now s.evq with
      | none =>
        rw [hs] at hr
        exact start_ahead hs r hr hp hne
      | some q =>
        rw [hs] at hr
        cases hr
        cases hp
    · intro ending left starts started passed ends
      refine ⟨hq, hresults, fun r hr y hy hnext x hx => ?_, fun he r hr ha y hy => ?_, fun r hr => ?_, hg⟩
      · obtain ⟨yields, z, hlast, hz⟩ := hresult hr hy hnext
        obtain rfl : resultOf r .complete r.stop yields z = x := by simpa [hlast] using hx
        have hfield : ∀ {α : Type} (f : Tally → α), f (bare z) = f (bare (closedAt s.tly.meterWeight now r r.stop y)) :=
          fun f => congrArg f hz
        exact ⟨rfl, rfl, rfl, rfl, hfield Tally.intervalsTotal, hfield Tally.intervalsMet, hfield fun t => t.worst.getD 0,
          hfield Tally.divergent⟩
      · have := hactive hr ha he
        rw [Option.mem_def.mp hy] at this
        obtain ⟨z, hz, hbare⟩ := Option.map_eq_some_iff.mp this
        refine ⟨z, hz, bare_eq_iff.mp ?_⟩
        rw [hbare, passedAt_bare]
        rfl
      · obtain ⟨hecho, htally⟩ := hstarted hr
        obtain ⟨z, hz, hbare⟩ := Option.map_eq_some_iff.mp htally
        exact ⟨hecho, z, hz, congrArg Tally.eventId hbare, congrArg Tally.interval hbare⟩
    · rw [hhalf (secondMove_entersHalfHour s h), fd]
    · obtain ⟨h1, h2, h3⟩ := secondStart_midnight s h
      rw [k.slu]
      refine ⟨h1, h2, fun d => ?_⟩
      rw [(k.docks d).2.2.2, h3]
    · obtain ⟨h1, h3⟩ := secondStart_within s h
      rw [k.slu, h1]
      refine ⟨rfl, rfl, fun d => ?_⟩
      rw [(k.docks d).2.2.2, h3]
    · rw [k.slu]
      exact ftrip
    · rw [k.slu]
      exact ftable
    · obtain ⟨k1, k2, k3, -⟩ := k.docks d
      obtain ⟨f1, f2, f3⟩ := secondStart_dock s d
      exact ⟨k1.trans f1, k2.trans f2, k3.trans f3⟩
  · refine congrArg Host.Outcome.next (takeDepotSecond_uncounted fun hc => ?_)
    simp only [depotTimeMax] at hc
    rcases h with h | h
    · simp [h] at hc
    · omega

end Sys2Proof.RoutePlans
end

section
/-! Which docks a pass gives a setpoint or a share, and the frames it queues (R96, R101, R102, R166, R172). -/

namespace Sys2Proof.RoutePlans

open Sys2Proof Sys2Proof.Machine

variable (s : State)

/-! ### What a list gives a dock -/

section
variable {α : Type} {zero : α} {l : List (Dock × α)} {d : Dock}

theorem givenTo_of_notMem (h : d ∉ l.map Prod.fst) : givenTo zero l d = zero := by
  have : l.find? (fun e => decide (e.1 = d)) = none := by
    refine List.find?_eq_none.mpr fun e he => ?_
    simp only [decide_eq_true_eq]
    exact fun hc => h (hc ▸ List.mem_map_of_mem he)
  rw [givenTo, this]

theorem givenTo_append_of_notMem {k : List (Dock × α)} (h : d ∉ l.map Prod.fst) : givenTo zero (l ++ k) d = givenTo zero k d := by
  have : l.find? (fun e => decide (e.1 = d)) = none := by
    refine List.find?_eq_none.mpr fun e he => ?_
    simp only [decide_eq_true_eq]
    exact fun hc => h (hc ▸ List.mem_map_of_mem he)
  rw [givenTo, List.find?_append, this]
  rfl

theorem givenTo_of_mem (hn : (l.map Prod.fst).Nodup) {x : α} (h : (d, x) ∈ l) : givenTo zero l d = x := by
  obtain ⟨l1, l2, rfl⟩ := List.append_of_mem h
  have h1 : d ∉ l1.map Prod.fst := by
    rw [List.map_append, List.map_cons] at hn
    exact fun hc => (List.nodup_middle.mp hn).notMem (List.mem_append_left _ hc)
  rw [givenTo_append_of_notMem h1]
  simp [givenTo]

end

/-! ### The docks of the fill (R96, R97) -/

theorem shareOut_docks (fair leftover : Nat) (l : List FillDock) : ∀ x ∈ shareOut fair leftover l, x.1 ∈ l.map FillDock.dock := by
  intro x hx
  obtain ⟨e, he, rfl⟩ := List.mem_map.mp hx
  exact List.mem_map_of_mem ((sortBy_perm _ l).mem_iff.mp (List.fst_mem_of_mem_zipIdx he))

theorem fillSorted_docks (l : List FillDock) (amount : Nat) : ∀ x ∈ fillSorted l amount, x.1 ∈ l.map FillDock.dock := by
  induction l generalizing amount with
  | nil => exact nofun
  | cons e l ih =>
    intro x hx
    simp only [fillSorted] at hx
    split at hx
    · rcases List.mem_cons.mp hx with rfl | hx
      · exact List.mem_cons_self
      · exact List.mem_cons_of_mem _ (ih _ x hx)
    · exact shareOut_docks _ _ _ x hx

/-- The water-fill gives shares to the docks that take part alone. -/
theorem waterFill_docks (l : List FillDock) (amount : Nat) : ∀ x ∈ waterFill l amount, x.1 ∈ l.map FillDock.dock := by
  intro x hx
  unfold waterFill at hx
  split at hx
  · obtain ⟨e, he, rfl⟩ := List.mem_map.mp hx
    exact List.mem_map_of_mem he
  · exact ((sortBy_perm _ l).map FillDock.dock).mem_iff.mp (fillSorted_docks _ _ x hx)

/-- A dock that takes part in the fill has a cap (R87, R95). -/
theorem fillingDocks_place {ev : EventRecord} {d : Dock} (h : d ∈ (fillingDocks s ev).map FillDock.dock) :
    ∃ c, place s d = .eligible c ∨ place s d = .resting c := by
  obtain ⟨e, he, rfl⟩ := List.mem_map.mp h
  unfold fillingDocks workAndRestDocks eligibleDocks at he
  split at he
  · obtain ⟨a, -, ha⟩ := List.mem_filterMap.mp he
    split at ha
    · next c hp => cases ha; exact ⟨c, .inl hp⟩
    · next c hp => cases ha; exact ⟨c, .inr hp⟩
    · cases ha
  · obtain ⟨a, -, ha⟩ := List.mem_filterMap.mp he
    split at ha
    · next c hp => cases ha; exact ⟨c, .inl hp⟩
    · cases ha

theorem passShares_place {d : Dock} (h : d ∈ (passShares s).map Prod.fst) : ∃ c, place s d = .eligible c ∨ place s d = .resting c := by
  unfold passShares at h
  split at h
  · obtain ⟨x, hx, rfl⟩ := List.mem_map.mp h
    exact fillingDocks_place s (waterFill_docks _ _ x hx)
  · simp at h

/-! ### The docks of the grants (R91, R92) -/

/-- An intake candidate is granted as a manual dock that asks for its rated intake (R91, R92). -/
theorem grantIntake_eq (g : Grants) (d : Dock) : grantIntake s g d = grantManual g (d, -((s.dock d).ratedIntake : Int)) := by
  unfold grantIntake grantManual
  by_cases h : (s.dock d).ratedIntake = 0
  · simp [h]
  · have : -((s.dock d).ratedIntake : Int) < 0 := by omega
    simp only [this, if_true, Int.natAbs_neg, Int.natAbs_natCast]

/-- What the docks of stages 4 and 5 ask for, in the order they are served (R91, R92). -/
def asks (s : State) : List (Dock × Int) := manualDocks s ++ (intakeDocks s).map fun d => (d, -((s.dock d).ratedIntake : Int))

/-- The grants before the first (R90, R93). -/
def noGrants (s : State) : Grants := { intakeLeft := intakeCeiling s, exportLeft := hNow s, given := [] }

theorem passGrants_eq : passGrants s = (asks s).foldl grantManual (noGrants s) := by
  have h : grantIntake s = fun g d => grantManual g (d, -((s.dock d).ratedIntake : Int)) := by
    funext g d
    exact grantIntake_eq s g d
  rw [asks, List.foldl_append, List.foldl_map, passGrants, h, manualGrants, noGrants]

theorem mem_manualDocks {d : Dock} {x : Int} : (d, x) ∈ manualDocks s ↔ place s d = .manual x := by
  unfold manualDocks
  rw [List.mem_filterMap]
  constructor
  · rintro ⟨a, -, ha⟩
    split at ha <;> cases ha
    assumption
  · intro h
    exact ⟨d, List.mem_finRange d, by simp [h]⟩

theorem mem_intakeDocks {d : Dock} : d ∈ intakeDocks s ↔ place s d = .intake := by
  unfold intakeDocks
  rw [(sortBy_perm _ _).mem_iff]
  simp [Dock.all]

/-- What a grant gives (R91): an intake out of `i`, a discharge out of `e`. -/
def granted (x : Int) (i e : Nat) : Int := if x < 0 then -((min x.natAbs i : Nat) : Int) else ((min x.toNat e : Nat) : Int)

theorem grantManual_given (g : Grants) (a : Dock × Int) :
    (grantManual g a).given = g.given ++ [(a.1, granted a.2 g.intakeLeft g.exportLeft)] := by
  unfold grantManual granted
  dsimp only
  split <;> rfl

/-- What a grant gives is taken off what is left. -/
theorem grantManual_left (g : Grants) (a : Dock × Int) :
    (grantManual g a).intakeLeft + (-granted a.2 g.intakeLeft g.exportLeft).toNat = g.intakeLeft ∧
      (grantManual g a).exportLeft + (granted a.2 g.intakeLeft g.exportLeft).toNat = g.exportLeft := by
  unfold grantManual granted
  dsimp only
  split <;> dsimp only <;> omega

/-- Further grants are appended, one for each dock that asks, and what they give is taken off what is left. -/
theorem foldl_grant (l : List (Dock × Int)) (g : Grants) :
    ∃ k, (l.foldl grantManual g).given = g.given ++ k ∧ k.map Prod.fst = l.map Prod.fst ∧
      (l.foldl grantManual g).intakeLeft + (k.map fun e => (-e.2).toNat).sum = g.intakeLeft ∧
      (l.foldl grantManual g).exportLeft + (k.map fun e => e.2.toNat).sum = g.exportLeft := by
  induction l generalizing g with
  | nil => exact ⟨[], by simp⟩
  | cons a l ih =>
    obtain ⟨k, hk, hf, hi, he⟩ := ih (grantManual g a)
    obtain ⟨hia, hea⟩ := grantManual_left g a
    refine ⟨(a.1, granted a.2 g.intakeLeft g.exportLeft) :: k, by simp [hk, grantManual_given], by simp [hf], ?_, ?_⟩
    · rw [List.foldl_cons, List.map_cons, List.sum_cons]
      omega
    · rw [List.foldl_cons, List.map_cons, List.sum_cons]
      omega

theorem passGrants_docks : (passGrants s).given.map Prod.fst = (asks s).map Prod.fst := by
  obtain ⟨k, hk, hf, -, -⟩ := foldl_grant (asks s) (noGrants s)
  rw [passGrants_eq]
  exact (congrArg (List.map Prod.fst) hk).trans (by simpa [noGrants] using hf)

theorem mem_asks_docks {d : Dock} : d ∈ (asks s).map Prod.fst ↔ (∃ x, place s d = .manual x) ∨ place s d = .intake := by
  simp only [asks, List.map_append, List.mem_append, List.map_map, List.mem_map, Prod.exists, exists_and_right, exists_eq_right, mem_manualDocks,
    Function.comp_apply, mem_intakeDocks]

/-! ### Setpoint and share by place -/

/-- A dock without a cap has no share. -/
theorem share_zero {d : Dock} (h : ∀ c, place s d ≠ .eligible c ∧ place s d ≠ .resting c) : (passOutcome s).shareOf d = 0 := by
  unfold passOutcome PassOutcome.shareOf
  split
  · refine givenTo_of_notMem fun hc => ?_
    obtain ⟨c, hc | hc⟩ := passShares_place s hc
    · exact (h c).1 hc
    · exact (h c).2 hc
  · rfl

/-- A dock that asks for nothing has its share alone as its setpoint. -/
theorem setpoint_eq_share {d : Dock} (hm : ∀ x, place s d ≠ .manual x) (hi : place s d ≠ .intake) :
    (passOutcome s).setpointOf d = (passOutcome s).shareOf d := by
  have hz : givenTo 0 (passOutcome s).setpoints d = 0 := by
    unfold passOutcome
    split
    · refine givenTo_of_notMem fun hc => ?_
      simp only [normalOutcome, passGrants_docks] at hc
      rcases (mem_asks_docks s).mp hc with ⟨x, hx⟩ | hx
      · exact hm x hx
      · exact hi hx
    · rfl
  rw [PassOutcome.setpointOf, hz, zero_add]

/-- A record that is not BOUND is given nothing (R86). -/
theorem given_zero_of_not_bound {d : Dock} (h : (s.dock d).state ≠ .bound) :
    (passOutcome s).setpointOf d = 0 ∧ (passOutcome s).shareOf d = 0 := by
  have hz : place s d = .zero := by
    unfold place
    split
    · next hb _ => exact absurd hb h
    · rfl
  have hs : (passOutcome s).shareOf d = 0 := share_zero s fun c => by simp [hz]
  exact ⟨by rw [setpoint_eq_share s (by simp [hz]) (by simp [hz]), hs]; rfl, hs⟩

theorem runPass_setpoint (d : Dock) : ((runPass s).dock d).setpoint = (passOutcome s).setpointOf d := by
  rw [runPass_dock]
  rfl

theorem runPass_share (d : Dock) : ((runPass s).dock d).share = (passOutcome s).shareOf d := by
  rw [runPass_dock]
  rfl

theorem runPass_floor (d : Dock) : ((runPass s).dock d).floor = passFloor s d := by
  rw [runPass_dock]
  rfl

/-! ### The phase bits and the frames queued (R102, R172, R174) -/

theorem queueFor_phase (d : Dock) (t : State) : (queueFor d t).dnc.phase = t.dnc.phase := by
  unfold queueFor Dnc.queueSetpoint
  split
  · rw [State.mapDnc_dnc]
    split <;> rfl
  · rfl

theorem queueFor_net (d : Dock) (t : State) : (queueFor d t).dnc.net = t.dnc.net := by
  unfold queueFor Dnc.queueSetpoint
  split
  · rw [State.mapDnc_dnc]
    split <;> rfl
  · rfl

theorem queueFor_docks (d : Dock) (t : State) : (queueFor d t).docks = t.docks := by
  unfold queueFor
  split <;> rfl

/-- The SETPOINTs queued for a dock once a new one is: that one alone (R172). -/
theorem filter_queueSetpoint_self {f : Setpoint} {n : Dnc} (hn : n.net ≠ .off) (h1 : n.queuedSetpoints.Pairwise fun a b => a.dock ≠ b.dock) :
    (n.queueSetpoint f).queuedSetpoints.filter (fun g => decide (g.dock = f.dock)) = [f] := by
  unfold Dnc.queueSetpoint
  rw [if_neg hn]
  dsimp only
  generalize n.queuedSetpoints = l at h1
  split
  · next h =>
    induction l with
    | nil => simp at h
    | cons a l ih =>
      obtain ⟨ha, hl⟩ := List.pairwise_cons.mp h1
      by_cases haf : a.dock = f.dock
      · have hrest : (l.map fun g => if g.dock = f.dock then f else g).filter (fun g => decide (g.dock = f.dock)) = [] := by
          refine List.filter_eq_nil_iff.mpr fun x hx => ?_
          obtain ⟨y, hy, rfl⟩ := List.mem_map.mp hx
          have : y.dock ≠ f.dock := fun hc => ha y hy (haf.trans hc.symm)
          simp [this]
        simp [haf, hrest]
      · have := ih hl (by simpa [haf] using h)
        simpa [haf] using this
  · next h =>
    have hnone : l.filter (fun g => decide (g.dock = f.dock)) = [] :=
      List.filter_eq_nil_iff.mpr fun x hx hc => h (List.any_eq_true.mpr ⟨x, hx, hc⟩)
    simp [hnone]

/-- The SETPOINTs queued for another dock stay. -/
theorem filter_queueSetpoint_other {f : Setpoint} {n : Dnc} {d : Dock} (hd : d ≠ f.dock) :
    (n.queueSetpoint f).queuedSetpoints.filter (fun g => decide (g.dock = d)) = n.queuedSetpoints.filter fun g => decide (g.dock = d) := by
  have hf : f.dock ≠ d := hd.symm
  have hmap (l : List Setpoint) : (l.map fun g => if g.dock = f.dock then f else g).filter (fun g => decide (g.dock = d)) =
      l.filter fun g => decide (g.dock = d) := by
    induction l with
    | nil => rfl
    | cons a l ih =>
      by_cases haf : a.dock = f.dock
      · have ha : a.dock ≠ d := haf ▸ hf
        simp [haf, hf, ih]
      · simp [haf, List.filter_cons, ih]
  unfold Dnc.queueSetpoint
  split
  · rfl
  · dsimp only
    split
    · exact hmap _
    · simp [hf]

end Sys2Proof.RoutePlans
end

section
/-! The frames an allocation pass queues, and the mark of the frame in transmission (R102, R166, R172). -/

namespace Sys2Proof.RoutePlans

open Sys2Proof Sys2Proof.Machine

variable (s : State)

/-! ### One SETPOINT for each dock (R172) -/

/-- To queue a SETPOINT keeps the queue at one for each dock. -/
theorem queueSetpoint_pairwise (f : Setpoint) {n : Dnc} (h : n.queuedSetpoints.Pairwise fun a b => a.dock ≠ b.dock) :
    (n.queueSetpoint f).queuedSetpoints.Pairwise fun a b => a.dock ≠ b.dock := by
  unfold Dnc.queueSetpoint
  split
  · exact h
  · dsimp only
    split
    · have hdock : ∀ g : Setpoint, (if g.dock = f.dock then f else g).dock = g.dock := fun g => by
        split
        · next hg => exact hg.symm
        · rfl
      rw [List.pairwise_map]
      simpa only [hdock] using h
    · next hany =>
      refine List.pairwise_append.mpr ⟨h, List.pairwise_singleton _ _, fun a ha b hb hc => hany ?_⟩
      rw [List.mem_singleton.mp hb] at hc
      exact List.any_eq_true.mpr ⟨a, ha, decide_eq_true hc⟩

theorem queueFor_pairwise (a : Dock) (h : s.dnc.queuedSetpoints.Pairwise fun f g => f.dock ≠ g.dock) :
    (queueFor a s).dnc.queuedSetpoints.Pairwise fun f g => f.dock ≠ g.dock := by
  unfold queueFor
  split
  · exact queueSetpoint_pairwise _ h
  · exact h

theorem queueFor_dock (a d : Dock) : (queueFor a s).dock d = s.dock d := by
  rw [State.dock, queueFor_docks]
  rfl

theorem queueFor_phaseOf (a d : Dock) : (queueFor a s).dnc.phaseOf d = s.dnc.phaseOf d := by
  rw [Dnc.phaseOf, queueFor_phase]
  rfl

/-- The SETPOINTs queued for a dock in a state. -/
def queuedFor (d : Dock) (s : State) : List Setpoint := s.dnc.queuedSetpoints.filter fun f => decide (f.dock = d)

theorem queueFor_self (d : Dock) (h1 : s.dnc.queuedSetpoints.Pairwise fun f g => f.dock ≠ g.dock) :
    queuedFor d (queueFor d s) = if s.dnc.net ≠ .off ∧ (s.dock d).getsSetpoint = true then
      [{ dock := d, value := (s.dock d).setpoint, phase := s.dnc.phaseOf d }] else queuedFor d s := by
  unfold queueFor
  by_cases hg : (s.dock d).getsSetpoint = true
  · by_cases hn : s.dnc.net = .off
    · simp [hg, hn, queuedFor, Dnc.queueSetpoint]
    · rw [if_pos hg, if_pos ⟨hn, hg⟩]
      exact filter_queueSetpoint_self (f := { dock := d, value := (s.dock d).setpoint, phase := s.dnc.phaseOf d }) hn h1
  · rw [if_neg hg, if_neg fun h => hg h.2]

theorem queueFor_other {a d : Dock} (h : d ≠ a) : queuedFor d (queueFor a s) = queuedFor d s := by
  unfold queueFor
  split
  · exact filter_queueSetpoint_other h
  · rfl

/-- What the docks of a list are queued, taken one after the other. -/
theorem foldl_queueFor {l : List Dock} (hl : l.Nodup) (d : Dock) (h1 : s.dnc.queuedSetpoints.Pairwise fun f g => f.dock ≠ g.dock) :
    queuedFor d (l.foldl (fun t a => queueFor a t) s) = if d ∈ l ∧ s.dnc.net ≠ .off ∧ (s.dock d).getsSetpoint = true then
      [{ dock := d, value := (s.dock d).setpoint, phase := s.dnc.phaseOf d }] else queuedFor d s := by
  induction l generalizing s with
  | nil => simp
  | cons a l ih =>
    obtain ⟨ha, hl⟩ := List.nodup_cons.mp hl
    rw [List.foldl_cons, ih _ hl (queueFor_pairwise s a h1), queueFor_dock, queueFor_phaseOf, queueFor_net]
    by_cases hd : d = a
    · subst hd
      rw [if_neg fun h => ha h.1, queueFor_self s d h1]
      simp
    · rw [queueFor_other s hd]
      simp [hd]

/-! ### The frame in transmission (R166) -/

/-- A frame in transmission with the mark set when it is a SETPOINT for one of the docks given. -/
def marked (m : Dock → Bool) (x : Transmission) : Transmission :=
  match x.frame with
  | .setpoint f => { x with superseded := x.superseded || m f.dock }
  | .cease => x
  | .echo _ => x

theorem marked_marked (m n : Dock → Bool) (x : Transmission) : marked n (marked m x) = marked (fun d => m d || n d) x := by
  rcases x with ⟨f | _ | _, w, b⟩
  · rfl
  · simp [marked, Bool.or_assoc]
  · rfl

theorem marked_none (x : Transmission) : marked (fun _ => false) x = x := by
  rcases x with ⟨f | _ | _, w, b⟩ <;> simp [marked]

theorem supersedeSetpoint_eq (d : Dock) (x : Transmission) : x.supersedeSetpoint d = marked (fun e => decide (e = d)) x := by
  rcases x with ⟨_ | f | _, w, b⟩
  · rfl
  · by_cases h : f.dock = d <;> simp [Transmission.supersedeSetpoint, marked, h]
  · rfl

theorem queueFor_sending (a : Dock) : (queueFor a s).dnc.sending =
    s.dnc.sending.map (marked fun d => decide (d = a) && (decide (s.dnc.net ≠ .off) && (s.dock d).getsSetpoint)) := by
  have hnone : s.dnc.sending = s.dnc.sending.map (marked fun _ => false) := by
    cases s.dnc.sending <;> simp [marked_none]
  have hmark : ∀ b, (s.dock a).getsSetpoint = b → (fun d => decide (d = a) && (decide (s.dnc.net ≠ .off) && (s.dock d).getsSetpoint)) =
      fun d => decide (d = a) && (decide (s.dnc.net ≠ .off) && b) := by
    intro b hb
    funext d
    by_cases hd : d = a
    · rw [hd, hb]
    · simp [hd]
  unfold queueFor
  split
  · next hg =>
    rw [hmark _ hg, State.mapDnc_dnc, Dnc.queueSetpoint]
    by_cases hn : s.dnc.net = .off
    · simpa [hn] using hnone
    · simp only [hn, if_false, ne_eq, not_false_eq_true, decide_true, Bool.and_true]
      exact congrFun (congrArg Option.map (funext fun x => supersedeSetpoint_eq a x)) _
  · next hg =>
    rw [hmark false (by simpa using hg)]
    simpa using hnone

theorem foldl_queueFor_sending (l : List Dock) : (l.foldl (fun t a => queueFor a t) s).dnc.sending =
    s.dnc.sending.map (marked fun d => decide (d ∈ l) && (decide (s.dnc.net ≠ .off) && (s.dock d).getsSetpoint)) := by
  induction l generalizing s with
  | nil => cases h : s.dnc.sending <;> simp [marked_none, h]
  | cons a l ih =>
    rw [List.foldl_cons, ih, queueFor_sending, queueFor_net, Option.map_map]
    simp only [queueFor_dock]
    refine congrFun (congrArg Option.map (funext fun x => ?_)) _
    rw [Function.comp_apply, marked_marked]
    refine congrFun (congrArg marked (funext fun d => ?_)) _
    rw [← Bool.and_or_distrib_right]
    simp

/-! ### The pass as a whole -/

/-- The last stage of a pass: it writes its outcome and queues its frames, from the records and the Dock Net as they were. -/
theorem runPass_written : ∃ t : State, t.docks = s.docks ∧ t.dnc = s.dnc ∧ runPass s = queueSetpoints (writeDocks s (passOutcome s) t) := by
  have h : ∀ u : State, u.docks = s.docks → u.dnc = s.dnc → ∃ t : State, t.docks = s.docks ∧ t.dnc = s.dnc ∧
      queueSetpoints (writeDocks s (passOutcome s) (applyShortBand (passOutcome s).handOver u)) =
        queueSetpoints (writeDocks s (passOutcome s) t) := fun u hd hn =>
    ⟨applyShortBand (passOutcome s).handOver u, by rw [applyShortBand_docks, hd], by rw [applyShortBand_dnc, hn], rfl⟩
  simp only [runPass]
  split <;> exact h _ rfl rfl

theorem queueSetpoints_phase : (queueSetpoints s).dnc.phase = s.dnc.phase := by
  unfold queueSetpoints
  generalize Dock.all = l
  exact foldl_keeps (fun t : State => t.dnc.phase) (fun t d => queueFor d t) (fun b a => queueFor_phase a b) l s

/-- A dock's phase bit after a pass (R174). -/
theorem runPass_phaseOf (d : Dock) :
    (runPass s).dnc.phaseOf d = (s.dnc.phaseOf d ^^ decide (((runPass s).dock d).setpoint ≠ (s.dock d).setpoint)) := by
  obtain ⟨t, hdocks, hdnc, hrun⟩ := runPass_written s
  have hdock : t.dock d = s.dock d := by rw [State.dock, hdocks]; rfl
  rw [runPass_setpoint, hrun, Dnc.phaseOf, queueSetpoints_phase]
  exact (writeDocks_phaseOf t s (passOutcome s) d).trans (by rw [hdnc, hdock])

theorem writeDocks_net_fields (t : State) (o : PassOutcome) : (writeDocks s o t).dnc.queuedSetpoints = t.dnc.queuedSetpoints ∧
    (writeDocks s o t).dnc.sending = t.dnc.sending ∧ (writeDocks s o t).dnc.net = t.dnc.net := by
  have h := writeDocks_dnc t s o t.dnc.phase
  exact ⟨(congrArg Dnc.queuedSetpoints h :), (congrArg Dnc.sending h :), (congrArg Dnc.net h :)⟩

/-- A written record gets a SETPOINT as it did before: the pass changes neither its state nor its vehicle. -/
theorem written_getsSetpoint (r : DockRecord) (sp : Int) (share floor : Nat) : (r.written sp share floor).getsSetpoint = r.getsSetpoint := by
  unfold DockRecord.written
  split <;> rfl

theorem getsSetpoint_iff (r : DockRecord) : r.getsSetpoint = true ↔ r.state = .bound ∨ (r.state = .faulted ∧ r.vehicle.isSome = true) := by
  cases h : r.state <;> simp [DockRecord.getsSetpoint, h]

/-- What a pass leaves queued for a dock (R102). -/
theorem runPass_queued (h1 : s.dnc.queuedSetpoints.Pairwise fun f g => f.dock ≠ g.dock) (d : Dock) :
    queuedFor d (runPass s) = if s.dnc.net ≠ .off ∧ (s.dock d).getsSetpoint = true then
      [{ dock := d, value := ((runPass s).dock d).setpoint, phase := (runPass s).dnc.phaseOf d }] else queuedFor d s := by
  obtain ⟨t, hdocks, hdnc, hrun⟩ := runPass_written s
  obtain ⟨hqueued, -, hnet⟩ := writeDocks_net_fields s t (passOutcome s)
  have hdock : t.dock d = s.dock d := by rw [State.dock, hdocks]; rfl
  have hgets : ((runPass s).dock d).getsSetpoint = (s.dock d).getsSetpoint := by rw [runPass_dock, written_getsSetpoint]
  have hphase : (runPass s).dnc.phaseOf d = (writeDocks s (passOutcome s) t).dnc.phaseOf d := by
    rw [hrun, Dnc.phaseOf, queueSetpoints_phase]
    rfl
  have hrec : (runPass s).dock d = (writeDocks s (passOutcome s) t).dock d := by rw [hrun, queueSetpoints_dock]
  have hfor : queuedFor d (writeDocks s (passOutcome s) t) = queuedFor d s := by rw [queuedFor, hqueued, hdnc]; rfl
  have hfold := foldl_queueFor (writeDocks s (passOutcome s) t) (List.nodup_finRange 40) d (by rw [hqueued, hdnc]; exact h1)
  rw [hfor, hnet, hdnc, ← hrec, ← hphase, hgets] at hfold
  rw [hrun]
  refine Eq.trans hfold ?_
  rw [← hrun]
  simp

/-- The mark a pass leaves on the frame in transmission (R166). -/
theorem runPass_sending : (runPass s).dnc.sending =
    s.dnc.sending.map (marked fun d => decide (s.dnc.net ≠ .off) && (s.dock d).getsSetpoint) := by
  obtain ⟨t, hdocks, hdnc, hrun⟩ := runPass_written s
  obtain ⟨-, hsending, hnet⟩ := writeDocks_net_fields s t (passOutcome s)
  have hgets : ∀ d, ((writeDocks s (passOutcome s) t).dock d).getsSetpoint = (s.dock d).getsSetpoint := fun d => by
    rw [writeDocks_dock, written_getsSetpoint, State.dock, hdocks]
    rfl
  rw [hrun, queueSetpoints, foldl_queueFor_sending, hsending, hnet, hdnc]
  simp only [hgets, Dock.all, List.mem_finRange, decide_true, Bool.true_and]

end Sys2Proof.RoutePlans
end

section
/-! A pass outside NORMAL, and what every pass writes and leaves (R83, R101, R102). -/

namespace Sys2Proof.RoutePlans

open Sys2Proof Sys2Proof.Machine

variable (s : State)

/-! ### Outside NORMAL (R83) -/

section
variable {s} (h : s.slu.trip ≠ .normal)
include h

theorem passOutcome_trip : passOutcome s = tripOutcome s := if_neg h

theorem runPass_trip_dock (d : Dock) : ((runPass s).dock d).setpoint = 0 ∧ ((runPass s).dock d).share = 0 := by
  rw [runPass_setpoint, runPass_share, passOutcome_trip h]
  exact ⟨rfl, rfl⟩

theorem runPass_trip_rpt : (runPass s).rpt = s.rpt := by
  have hhand : (passOutcome s).handOver = [] := by rw [passOutcome_trip h]; rfl
  rw [runPass_rpt, hhand, applyShortBand_nil]

theorem runPass_trip_rot : (runPass s).rot = s.rot := by
  have hyield : (passOutcome s).yielded = false := by rw [passOutcome_trip h]; rfl
  rw [runPass_rot, hyield]
  rfl

theorem runPass_trip_alc : (runPass s).alc = { previousNet := 0, previousIntake := 0, previousPass := s.dck.uptime, lastYield := false
                                               lastShortfall := match s.evq with | r :: _ => if r.state = .active then r.committed else 0 | [] => 0 } := by
  rw [runPass_alc, passOutcome_trip h]
  cases hq : s.evq with
  | nil => simp [tripOutcome, PassOutcome.alc, activeRecord, hq]
  | cons r l => by_cases ha : r.state = .active <;> simp [tripOutcome, PassOutcome.alc, activeRecord, hq, ha]

end

/-! ### What every pass writes and leaves -/

theorem runPass_record (d : Dock) :
    let changed := decide (((runPass s).dock d).setpoint ≠ (s.dock d).setpoint)
    (runPass s).dock d = { s.dock d with
      setpoint := ((runPass s).dock d).setpoint, share := ((runPass s).dock d).share, floor := ((runPass s).dock d).floor
      phaseAcked := (s.dock d).phaseAcked && !changed
      phaseMismatch := if changed then 0 else (s.dock d).phaseMismatch
      powerMismatch := if changed then 0 else (s.dock d).powerMismatch } := by
  intro changed
  simp only [changed, runPass_setpoint, runPass_share, runPass_floor]
  rw [runPass_dock, DockRecord.written]
  by_cases hc : (passOutcome s).setpointOf d = (s.dock d).setpoint <;> simp [hc]

theorem passFloor_of_no_vehicle {d : Dock} (h : (s.dock d).vehicle = none) : passFloor s d = 0 := by
  simp only [passFloor, h]
  cases (s.dock d).state <;> rfl

theorem withPassFields_self (n : Dnc) : withPassFields n.phase n.queuedSetpoints n.sending n = n := rfl

/-- The Dock Net after a pass, with its phase bits and its queued SETPOINTs given by name (R166). -/
theorem runPass_dnc_full : (runPass s).dnc = withPassFields (runPass s).dnc.phase (runPass s).dnc.queuedSetpoints
    (s.dnc.sending.map (marked fun d => decide (s.dnc.net ≠ .off) && (s.dock d).getsSetpoint)) s.dnc := by
  rw [← runPass_sending, ← runPass_dnc, withPassFields_self]

theorem getsSetpoint_eq (r : DockRecord) :
    r.getsSetpoint = (decide (r.state = .bound) || (decide (r.state = .faulted) && r.vehicle.isSome)) := by
  cases h : r.state <;> simp [DockRecord.getsSetpoint, h]

theorem runPass_rot_params : (runPass s).rot = { s.rot with yieldCount := (runPass s).rot.yieldCount } := by
  rw [runPass_rot]
  split <;> rfl

/-- What becomes of a record, its phase bit and its frames in a pass (R101, R102, R174). -/
theorem passWrites (h : s.NetOk) (d : Dock) :
    let t := runPass s
    let changed := decide ((t.dock d).setpoint ≠ (s.dock d).setpoint)
    t.dock d = { s.dock d with
      setpoint := (t.dock d).setpoint, share := (t.dock d).share, floor := (t.dock d).floor
      phaseAcked := (s.dock d).phaseAcked && !changed
      phaseMismatch := if changed then 0 else (s.dock d).phaseMismatch
      powerMismatch := if changed then 0 else (s.dock d).powerMismatch } ∧
    t.dnc.phaseOf d = (s.dnc.phaseOf d ^^ changed) ∧
    ((s.dock d).vehicle = none → (t.dock d).floor = 0) ∧
    ((s.dock d).state ≠ .bound → (t.dock d).setpoint = 0 ∧ (t.dock d).share = 0) ∧
    queuedFor d t =
      (if s.dnc.net ≠ .off ∧ ((s.dock d).state = .bound ∨ ((s.dock d).state = .faulted ∧ (s.dock d).vehicle.isSome = true)) then
        [{ dock := d, value := (t.dock d).setpoint, phase := t.dnc.phaseOf d }]
      else queuedFor d s) := by
  refine ⟨runPass_record s d, runPass_phaseOf s d, fun hv => ?_, fun hb => ?_, ?_⟩
  · rw [runPass_floor, passFloor_of_no_vehicle s hv]
  · rw [runPass_setpoint, runPass_share]
    exact given_zero_of_not_bound s hb
  · rw [runPass_queued s h.one_setpoint d]
    simp only [getsSetpoint_iff]

/-- The mark on the frame in transmission in the words of the statement. -/
theorem marked_gets (x : Transmission) : marked (fun d => decide (s.dnc.net ≠ .off) && (s.dock d).getsSetpoint) x =
    match x.frame with
    | .setpoint f => { x with superseded := x.superseded || (decide (s.dnc.net ≠ .off) && (decide ((s.dock f.dock).state = .bound) ||
        (decide ((s.dock f.dock).state = .faulted) && (s.dock f.dock).vehicle.isSome))) }
    | .cease => x
    | .echo _ => x := by
  rcases x with ⟨f | _ | _, w, b⟩ <;> simp only [marked, getsSetpoint_eq]

end Sys2Proof.RoutePlans
end

section
/-! The values of a pass in the words of the statement, and the place of a dock by them (R46 to R49, R85 to R95). -/

namespace Sys2Proof.RoutePlans

open Sys2Proof Sys2Proof.Machine

variable (s : State)

/-! ### The values -/

/-- The ACTIVE record, first in the queue. -/
def eventNow : Option EventRecord := s.evq.head?.filter fun r => decide (r.state = .active)

/-- The moment the floors are taken for: the event's end, or now (R46, R81). -/
def chargeMoment : Nat := match eventNow s with | some r => r.stop | none => s.dck.depotTime

def floorAt (d : Dock) (v : Nat) : Nat := floorOf s d v (chargeMoment s)

def entryOf (v : Nat) : Option Plan := s.rpt.plans.find? fun p => decide (p.vehicle = v)

def levelOf (v : Nat) : HoldLevel := match entryOf s v with | some p => p.hold | none => .none

/-- The vehicle of a BOUND dock, unless it is locked out (R85). -/
def servedVehicle (d : Dock) : Option Nat :=
  if (s.dock d).state = .bound then (s.dock d).vehicle.filter fun v => decide (levelOf s v ≠ .lockout) else none

/-- The value a dock steered by hand asks for, unless a hold forbids it (R86). -/
def manualValue (d : Dock) : Option Int :=
  if (s.dock d).steering = .manual then (servedVehicle s d).bind fun v =>
    (if levelOf s v = .hold ∧ 0 < (s.dock d).manual.getD 0 then none else some ((s.dock d).manual.getD 0))
  else none

/-- The vehicle of a dock the Allocator steers. -/
def freeVehicle (d : Dock) : Option Nat := if (s.dock d).steering = .allocator then servedVehicle s d else none

/-- An intake candidate: below its floor in an event, below its charge goal outside one (R87, R89). -/
def isCandidate (d : Dock) : Bool :=
  (freeVehicle s d).any fun v => decide ((s.dock d).stored < (if (eventNow s).isSome then floorAt s d v else goalOf s d v))

/-- The departure of a dock's vehicle; with no live plan a moment after all departures (R92). -/
def leavesAt (d : Dock) : Nat := match (s.dock d).vehicle.bind (plannedEntry s) with | some p => p.departure | none => 4294967296

/-- The order of the intake candidates: departure, stored energy, address (R92). -/
def goesBefore (e d : Dock) : Bool := decide (leavesAt s e < leavesAt s d ∨ (leavesAt s e = leavesAt s d ∧
  ((s.dock e).stored < (s.dock d).stored ∨ ((s.dock e).stored = (s.dock d).stored ∧ e.val < d.val))))

/-- The cap of a dock in an event; 0 for one that sends nothing out (R87, R88). -/
def capOf (d : Dock) : Nat :=
  match eventNow s, (freeVehicle s d).bind (entryOf s) with
  | some r, some p =>
    if isCandidate s d = true ∨ p.state = .departed ∨ p.hold = .hold then 0
    else min (s.dock d).ratedExport (((s.dock d).stored - floorAt s d p.vehicle) * 3600 / max 60 (r.stop - s.dck.depotTime))
  | _, _ => 0

def restNow : Option (Fin 4) := match s.rot.state with | .rest g => g | _ => none

def isResting (d : Dock) : Bool := decide (restNow s = some (s.dock d).group)

/-! ### The model's values in these words -/

theorem eventNow_eq : eventNow s = activeRecord s.evq := by
  unfold eventNow activeRecord
  cases s.evq with
  | nil => rfl
  | cons r l => by_cases h : r.state = .active <;> simp [h]

theorem chargeMoment_eq : chargeMoment s = passChargeFrom s := by
  cases h : activeRecord s.evq <;> simp only [chargeMoment, passChargeFrom, eventNow_eq, h]

theorem entryOf_eq (v : Nat) : entryOf s v = findPlan s.rpt.plans v := rfl

theorem levelOf_eq (v : Nat) : levelOf s v = holdLevelOf s.rpt.plans v := by
  cases h : findPlan s.rpt.plans v <;> simp only [levelOf, holdLevelOf, entryOf_eq, h]

theorem plannedEntry_eq (v : Nat) : plannedEntry s v = livePlan s v := rfl

theorem restNow_eq : restNow s = s.rot.restingGroup := by
  unfold restNow Rot.restingGroup
  cases s.rot.state <;> rfl

theorem headroomNow_eq : headroomNow s = hNow s := by
  unfold headroomNow hNow
  by_cases h1 : s.dck.running = false
  · rw [if_pos (.inl h1), if_pos h1]
  · by_cases h2 : s.slu.tableValid = false
    · rw [if_pos (.inr h2), if_neg h1, if_pos h2]
    · rw [if_neg (by simp [h1, h2]), if_neg h1, if_neg h2]
      cases s.slu.limit <;> rfl

theorem goalOf_eq (d : Dock) (v : Nat) : goalOf s d v = chargeGoal s (s.dock d) v := by
  unfold goalOf chargeGoal
  rw [plannedEntry_eq]
  cases livePlan s v <;> rfl

theorem floorOf_eq (d : Dock) (v t : Nat) : floorOf s d v t = reserveFloor s (s.dock d) v t := by
  unfold floorOf reserveFloor
  rw [goalOf_eq, chargeGoal, plannedEntry_eq]
  cases livePlan s v with
  | none => rfl
  | some p =>
    have htime : ((p.departure : Int) - t - s.rpt.readyLead).toNat = p.departure - t - s.rpt.readyLead := by omega
    simp only [plannedFloor, rechargeEnergy, rechargeTime, htime, keepFloor, ceilDiv]

/-- A record with a vehicle has its reserve floor written (R82). -/
theorem passFloor_eq (h : s.DocksOk) {d : Dock} {v : Nat} (hv : (s.dock d).vehicle = some v) : passFloor s d = floorAt s d v := by
  unfold passFloor floorAt
  rw [chargeMoment_eq, floorOf_eq]
  rcases (h.records d).vehicle_states (by simp [hv]) with hs | hs | hs <;> simp only [hs, hv]

/-! ### The place of a dock (R85 to R89) -/

variable {s} {d : Dock}

theorem servedVehicle_eq_some {v : Nat} :
    servedVehicle s d = some v ↔ (s.dock d).state = .bound ∧ (s.dock d).vehicle = some v ∧ levelOf s v ≠ .lockout := by
  unfold servedVehicle
  by_cases hb : (s.dock d).state = .bound <;> simp [hb, Option.filter_eq_some_iff]

theorem freeVehicle_eq_some {v : Nat} : freeVehicle s d = some v ↔ (s.dock d).steering = .allocator ∧ servedVehicle s d = some v := by
  unfold freeVehicle
  by_cases ha : (s.dock d).steering = .allocator <;> simp [ha]

/-- A dock whose vehicle is not served is given nothing (R85, R86). -/
theorem place_of_unserved (h : servedVehicle s d = none) : place s d = .zero := by
  unfold place
  split
  · next v hb hv =>
    have hl : levelOf s v = .lockout := by
      by_contra hne
      exact absurd (servedVehicle_eq_some.mpr ⟨hb, hv, hne⟩) (by simp [h])
    rw [levelOf_eq] at hl
    simp [placeBound, hl]
  · rfl

theorem place_of_served {v : Nat} (h : servedVehicle s d = some v) : place s d = placeBound s d v := by
  obtain ⟨hb, hv, -⟩ := servedVehicle_eq_some.mp h
  unfold place
  rw [hb, hv]

/-- A dock steered by hand asks for its manual value (R86). -/
theorem place_of_manual (h : (s.dock d).steering = .manual) : place s d = (manualValue s d).elim .zero .manual := by
  cases hv : servedVehicle s d with
  | none => simp [place_of_unserved hv, manualValue, hv]
  | some v =>
    obtain ⟨-, -, hl⟩ := servedVehicle_eq_some.mp hv
    rw [place_of_served hv, placeBound, ← levelOf_eq]
    rw [if_neg hl, h]
    by_cases hc : levelOf s v = .hold ∧ 0 < (s.dock d).manual.getD 0 <;> simp [manualValue, h, hv, hc]

theorem place_of_candidate (hok : s.DocksOk) (h : isCandidate s d = true) : place s d = .intake := by
  obtain ⟨v, hfree, hlow⟩ := (Option.any_eq_true _ _).mp h
  obtain ⟨ha, hv⟩ := freeVehicle_eq_some.mp hfree
  obtain ⟨-, hveh, hl⟩ := servedVehicle_eq_some.mp hv
  rw [place_of_served hv, placeBound, ← levelOf_eq, if_neg hl, ha, ← eventNow_eq]
  cases he : eventNow s with
  | none => simpa [he, goalOf_eq] using hlow
  | some r =>
    have hfloor : (s.dock d).stored < passFloor s d := by simpa [he, passFloor_eq s hok hveh] using hlow
    simp [hfloor]

/-- A dock of the Allocator that is no intake candidate has its cap, at work or at rest (R87, R88). -/
theorem place_of_free (hok : s.DocksOk) (ha : (s.dock d).steering = .allocator) (h : isCandidate s d = false) :
    place s d = if capOf s d = 0 then .zero else if isResting s d then .resting (capOf s d) else .eligible (capOf s d) := by
  cases hv : servedVehicle s d with
  | none =>
    have hfree : freeVehicle s d = none := by simp [freeVehicle, ha, hv]
    have hcap : capOf s d = 0 := by cases he : eventNow s <;> simp [capOf, he, hfree]
    rw [place_of_unserved hv, if_pos hcap]
  | some v =>
    have hfree : freeVehicle s d = some v := freeVehicle_eq_some.mpr ⟨ha, hv⟩
    obtain ⟨-, hveh, hl⟩ := servedVehicle_eq_some.mp hv
    have hlow : ¬(s.dock d).stored < (if (eventNow s).isSome then floorAt s d v else goalOf s d v) := by
      simpa [isCandidate, hfree] using h
    rw [place_of_served hv, placeBound, ← levelOf_eq, if_neg hl, ha, ← eventNow_eq]
    cases he : eventNow s with
    | none =>
      have hcap : capOf s d = 0 := by simp [capOf, he]
      rw [if_pos hcap]
      simpa [he, goalOf_eq] using hlow
    | some r =>
      have hfloor : ¬(s.dock d).stored < passFloor s d := by simpa [he, passFloor_eq s hok hveh] using hlow
      simp only [if_neg hfloor, placeExport]
      cases hp : findPlan s.rpt.plans v with
      | none =>
        have hcap : capOf s d = 0 := by simp [capOf, he, hfree, entryOf_eq, hp]
        rw [if_pos hcap]
      | some p =>
        obtain ⟨-, hpv⟩ := mem_findPlan hp
        have hrem : remainingSeconds r s.dck.depotTime = max 60 (r.stop - s.dck.depotTime) := by
          unfold remainingSeconds
          congr 1
          omega
        by_cases hx : p.state = .departed ∨ p.hold = .hold
        · have hcap : capOf s d = 0 := by simp [capOf, he, hfree, entryOf_eq, hp, hx]
          simp [hx, hcap]
        · have hcap : capOf s d = exportCap (s.dock d).ratedExport ((s.dock d).stored - passFloor s d) (remainingSeconds r s.dck.depotTime) := by
            simp [capOf, he, hfree, entryOf_eq, hp, hx, h, exportCap, hrem, passFloor_eq s hok hveh, hpv]
          simp [hx, hcap, isResting, restNow_eq]

/-- A dock with a cap is one of the Allocator's and no intake candidate. -/
theorem of_capOf_pos (h : capOf s d ≠ 0) : (s.dock d).steering = .allocator ∧ isCandidate s d = false := by
  unfold capOf at h
  split at h
  · next hr hp =>
    obtain ⟨v, hfree, -⟩ := Option.bind_eq_some_iff.mp hp
    refine ⟨(freeVehicle_eq_some.mp hfree).1, ?_⟩
    by_contra hc
    simp [hc] at h
  · exact absurd rfl h

theorem manualValue_steering {x : Int} (h : manualValue s d = some x) : (s.dock d).steering = .manual := by
  by_contra hne
  simp [manualValue, hne] at h

theorem isCandidate_steering (h : isCandidate s d = true) : (s.dock d).steering = .allocator := by
  obtain ⟨v, hfree, -⟩ := (Option.any_eq_true _ _).mp h
  exact (freeVehicle_eq_some.mp hfree).1

/-- The place of a dock in the words of the statement (R85 to R89). -/
theorem place_eq (hok : s.DocksOk) (d : Dock) : place s d =
    match manualValue s d with
    | some x => .manual x
    | none =>
      if isCandidate s d then .intake else if capOf s d = 0 then .zero
      else if isResting s d then .resting (capOf s d) else .eligible (capOf s d) := by
  cases hs : (s.dock d).steering with
  | manual =>
    have hc : isCandidate s d = false := by
      by_contra hc
      exact absurd (isCandidate_steering (by simpa using hc)) (by simp [hs])
    have hcap : capOf s d = 0 := by
      by_contra hcap
      exact absurd (of_capOf_pos hcap).1 (by simp [hs])
    rw [place_of_manual hs]
    cases manualValue s d <;> simp [hc, hcap]
  | allocator =>
    have hm : manualValue s d = none := by simp [manualValue, hs]
    rw [hm]
    by_cases hc : isCandidate s d = true
    · rw [place_of_candidate hok hc, if_pos hc]
    · rw [place_of_free hok hs (by simpa using hc), if_neg hc]

theorem place_manual_iff (hok : s.DocksOk) {x : Int} : place s d = .manual x ↔ manualValue s d = some x := by
  rw [place_eq hok d]
  cases manualValue s d with
  | some y => simp
  | none =>
    simp only [reduceCtorEq, iff_false]
    split_ifs <;> simp

theorem place_intake_iff (hok : s.DocksOk) : place s d = .intake ↔ isCandidate s d = true := by
  rw [place_eq hok d]
  cases hm : manualValue s d with
  | some y =>
    have hc : isCandidate s d ≠ true := fun hc => absurd (isCandidate_steering hc) (by simp [manualValue_steering hm])
    simp [hc]
  | none =>
    dsimp only
    split_ifs with h1 <;> simp [h1]

theorem place_of_capOf_pos (hok : s.DocksOk) (h : capOf s d ≠ 0) :
    place s d = if isResting s d then .resting (capOf s d) else .eligible (capOf s d) := by
  obtain ⟨ha, hc⟩ := of_capOf_pos h
  rw [place_of_free hok ha hc, if_neg h]

theorem place_eligible_iff (hok : s.DocksOk) {c : Nat} : place s d = .eligible c ↔ capOf s d ≠ 0 ∧ isResting s d = false ∧ c = capOf s d := by
  by_cases h : capOf s d = 0
  · refine ⟨fun hp => ?_, fun hc => absurd h hc.1⟩
    rw [place_eq hok d] at hp
    cases hm : manualValue s d <;> simp only [hm, h, if_true, reduceCtorEq] at hp
    split_ifs at hp
  · rw [place_of_capOf_pos hok h]
    cases isResting s d <;> simp [h, eq_comm]

theorem place_resting_iff (hok : s.DocksOk) {c : Nat} : place s d = .resting c ↔ capOf s d ≠ 0 ∧ isResting s d = true ∧ c = capOf s d := by
  by_cases h : capOf s d = 0
  · refine ⟨fun hp => ?_, fun hc => absurd h hc.1⟩
    rw [place_eq hok d] at hp
    cases hm : manualValue s d <;> simp only [hm, h, if_true, reduceCtorEq] at hp
    split_ifs at hp
  · rw [place_of_capOf_pos hok h]
    cases isResting s d <;> simp [h, eq_comm]

end Sys2Proof.RoutePlans
end

section
/-! What each dock is granted, and the sums of the statement (R90 to R93). -/

namespace Sys2Proof.RoutePlans

open Sys2Proof Sys2Proof.Machine

variable (s : State)

/-! ### The docks that ask, in the order they are served -/

/-- The setpoint a dock of stages 4 and 5 asks for. -/
def askOf (d : Dock) : Int := (manualValue s d).getD (-((s.dock d).ratedIntake : Int))

def manualList : List Dock := Dock.all.filter fun d => (manualValue s d).isSome

def askers : List Dock := manualList s ++ intakeDocks s

variable {s} (hok : s.DocksOk)
include hok

theorem manualDocks_eq : manualDocks s = (manualList s).map fun d => (d, askOf s d) := by
  unfold manualDocks manualList
  rw [← filterMap_ite]
  refine List.filterMap_congr fun d _ => ?_
  cases hm : manualValue s d with
  | some x => simp [(place_manual_iff hok).mpr hm, askOf, hm]
  | none =>
    split
    · next x hp => simp [(place_manual_iff hok).mp hp] at hm
    · simp

theorem mem_intakeDocks_iff {d : Dock} : d ∈ intakeDocks s ↔ isCandidate s d = true := by
  rw [mem_intakeDocks, place_intake_iff hok]

omit hok in
theorem manualValue_of_candidate {d : Dock} (h : isCandidate s d = true) : manualValue s d = none := by
  cases hm : manualValue s d with
  | none => rfl
  | some x => exact absurd (isCandidate_steering h) (by simp [manualValue_steering hm])

omit hok in
theorem mem_manualList {d : Dock} : d ∈ manualList s ↔ (manualValue s d).isSome = true := by
  simp [manualList, Dock.all]

theorem asks_eq : asks s = (askers s).map fun d => (d, askOf s d) := by
  rw [asks, askers, List.map_append, manualDocks_eq hok]
  congr 1
  refine List.map_congr_left fun d hd => ?_
  simp [askOf, manualValue_of_candidate ((mem_intakeDocks_iff hok).mp hd)]

omit hok in
theorem intakeDocks_nodup : (intakeDocks s).Nodup :=
  (sortBy_perm _ _).nodup_iff.mpr ((List.nodup_finRange 40).filter _)

theorem askers_nodup : (askers s).Nodup := by
  refine List.Nodup.append ((List.nodup_finRange 40).filter _) intakeDocks_nodup fun d hm hi => ?_
  rw [mem_manualList, manualValue_of_candidate ((mem_intakeDocks_iff hok).mp hi)] at hm
  simp at hm

/-! ### What an asker is granted -/

/-- What the grants of a pass give a dock. -/
def grantOf (s : State) (d : Dock) : Int := givenTo 0 (passGrants s).given d

/-- The grants after the docks of a list. -/
def grantsAfter (s : State) (A : List Dock) : Grants := (A.map fun e => (e, askOf s e)).foldl grantManual (noGrants s)

omit hok in
theorem map_fst_pairs (A : List Dock) (f : Dock → Int) : (A.map fun e => (e, f e)).map Prod.fst = A := by
  rw [List.map_map]
  exact List.map_id'' (fun _ => rfl) A

omit hok in
/-- A value of some entries of a list that names no dock twice, as a value of their docks. -/
theorem map_givenTo {l k : List (Dock × Int)} (hn : (l.map Prod.fst).Nodup) (hk : ∀ e ∈ k, e ∈ l) (f : Int → Nat) :
    (k.map fun e => f e.2) = (k.map Prod.fst).map fun d => f (givenTo 0 l d) := by
  rw [List.map_map]
  exact List.map_congr_left fun e he => by rw [Function.comp_apply, givenTo_of_mem hn (hk e he)]

theorem passGrants_nodup : ((passGrants s).given.map Prod.fst).Nodup := by
  rw [passGrants_docks, asks_eq hok, map_fst_pairs]
  exact askers_nodup hok

theorem passGrants_split {A B : List Dock} (h : askers s = A ++ B) :
    passGrants s = (B.map fun e => (e, askOf s e)).foldl grantManual (grantsAfter s A) := by
  rw [passGrants_eq, asks_eq hok, h, List.map_append, List.foldl_append]
  rfl

/-- What the docks served first leave of the ceiling and the headroom (R90 to R93). -/
theorem grantsAfter_left {A B : List Dock} (h : askers s = A ++ B) :
    (grantsAfter s A).intakeLeft + (A.map fun e => (-grantOf s e).toNat).sum = intakeCeiling s ∧
      (grantsAfter s A).exportLeft + (A.map fun e => (grantOf s e).toNat).sum = hNow s := by
  obtain ⟨k, hk, hkA, hi, he⟩ := foldl_grant (A.map fun e => (e, askOf s e)) (noGrants s)
  obtain ⟨k', hk', -, -, -⟩ := foldl_grant (B.map fun e => (e, askOf s e)) (grantsAfter s A)
  rw [map_fst_pairs] at hkA
  have hmem : ∀ e ∈ k, e ∈ (passGrants s).given := fun e he => by
    have hgiven : (passGrants s).given = k ++ k' := by
      rw [passGrants_split hok h, hk', grantsAfter, hk]
      rfl
    rw [hgiven]
    exact List.mem_append_left _ he
  rw [map_givenTo (passGrants_nodup hok) hmem (fun x => (-x).toNat), hkA] at hi
  rw [map_givenTo (passGrants_nodup hok) hmem (fun x => x.toNat), hkA] at he
  exact ⟨hi, he⟩

/-- A dock is granted what it asks for, out of what the docks before it have left (R91, R92). -/
theorem grantOf_asker {A B : List Dock} {d : Dock} (h : askers s = A ++ d :: B) :
    grantOf s d = granted (askOf s d) (intakeCeiling s - (A.map fun e => (-grantOf s e).toNat).sum)
      (hNow s - (A.map fun e => (grantOf s e).toNat).sum) := by
  obtain ⟨hi, he⟩ := grantsAfter_left hok h
  obtain ⟨k, hk, -, -, -⟩ := foldl_grant (B.map fun e => (e, askOf s e)) (grantManual (grantsAfter s A) (d, askOf s d))
  have hmem : (d, granted (askOf s d) (grantsAfter s A).intakeLeft (grantsAfter s A).exportLeft) ∈ (passGrants s).given := by
    rw [passGrants_split hok h, List.map_cons, List.foldl_cons, hk, grantManual_given]
    simp
  rw [grantOf, givenTo_of_mem (passGrants_nodup hok) hmem, Nat.eq_sub_of_add_eq hi, Nat.eq_sub_of_add_eq he]

/-- What all grants together take off the ceiling and the headroom (R90, R93). -/
theorem passGrants_left : (passGrants s).intakeLeft + ((askers s).map fun e => (-grantOf s e).toNat).sum = intakeCeiling s ∧
    (passGrants s).exportLeft + ((askers s).map fun e => (grantOf s e).toNat).sum = hNow s := by
  rw [passGrants_split hok (List.append_nil _).symm]
  exact grantsAfter_left hok (List.append_nil _).symm

end Sys2Proof.RoutePlans
end

section
/-! The order in which the docks of stages 4 and 5 are served, and the setpoints they get (R90 to R92). -/

namespace Sys2Proof.RoutePlans

open Sys2Proof Sys2Proof.Machine

/-! ### Order -/

theorem sortBy_eq_insertionSort {α : Type} (le : α → α → Bool) (l : List α) : sortBy le l = l.insertionSort fun a b => le a b = true := by
  have hins : ∀ (a : α) (l : List α), insertBy le a l = l.orderedInsert (fun a b => le a b = true) a := by
    intro a l
    induction l with
    | nil => rfl
    | cons b l ih => simp only [insertBy, List.orderedInsert, ih]
  induction l with
  | nil => rfl
  | cons a l ih => rw [sortBy, ih, hins, List.insertionSort_cons]

/-- What stands before an element in a list ordered by `r`. -/
theorem mem_before_iff {α : Type} {r : α → α → Prop} {A B : List α} {d : α} (h : (A ++ d :: B).Pairwise r) (irrefl : ∀ a, ¬r a a)
    (asymm : ∀ a b, r a b → ¬r b a) (e : α) : e ∈ A ↔ e ∈ A ++ d :: B ∧ r e d := by
  obtain ⟨-, htail, hcross⟩ := List.pairwise_append.mp h
  refine ⟨fun he => ⟨List.mem_append_left _ he, hcross e he d List.mem_cons_self⟩, fun ⟨he, hr⟩ => ?_⟩
  rcases List.mem_append.mp he with he | he
  · exact he
  · rcases List.mem_cons.mp he with rfl | he
    · exact absurd hr (irrefl e)
    · exact absurd hr (asymm d e ((List.pairwise_cons.mp htail).1 e he))

variable (s : State)

theorem goesBefore_iff (e d : Dock) : goesBefore s e d = true ↔ leavesAt s e < leavesAt s d ∨ (leavesAt s e = leavesAt s d ∧
    ((s.dock e).stored < (s.dock d).stored ∨ ((s.dock e).stored = (s.dock d).stored ∧ e.val < d.val))) := decide_eq_true_iff

/-- The departure of a live plan is before the moment that stands for none. -/
theorem leavesAt_eq (hp : s.PlansOk) (d : Dock) :
    (candidateDeparture s d = none ∧ leavesAt s d = 4294967296) ∨
      ∃ x, candidateDeparture s d = some x ∧ leavesAt s d = x ∧ x < 4294967296 := by
  unfold candidateDeparture leavesAt
  rw [show plannedEntry s = livePlan s from rfl]
  cases h : (s.dock d).vehicle.bind (livePlan s) with
  | none => exact .inl ⟨rfl, rfl⟩
  | some p =>
    obtain ⟨v, -, hv⟩ := Option.bind_eq_some_iff.mp h
    have hfind : findPlan s.rpt.plans v = some p := by
      unfold livePlan at hv
      split at hv
      · exact (Option.filter_eq_some_iff.mp hv).1
      · cases hv
    have := (hp.entries p (mem_findPlan hfind).1).departure_range
    exact .inr ⟨p.departure, rfl, rfl, by unfold depotTimeMax at this; omega⟩

/-- One candidate may stand before another unless the other goes first (R92). -/
theorem candidateLe_iff (hp : s.PlansOk) (a b : Dock) : candidateLe s a b = true ↔ goesBefore s b a = false := by
  rw [← Bool.not_eq_true, goesBefore_iff, candidateLe]
  rcases leavesAt_eq s hp a with ⟨ha, hla⟩ | ⟨x, ha, hla, hx⟩ <;> rcases leavesAt_eq s hp b with ⟨hb, hlb⟩ | ⟨y, hb, hlb, hy⟩ <;>
    simp only [ha, hb, hla, hlb, Bool.or_eq_true, Bool.and_eq_true, decide_eq_true_eq, true_iff, Bool.false_eq_true, false_iff, true_and] <;> omega

theorem intakeDocks_pairwise (hp : s.PlansOk) : (intakeDocks s).Pairwise fun e d => goesBefore s e d = true := by
  have hle : (intakeDocks s).Pairwise fun a b => candidateLe s a b = true := by
    have : Std.Total fun a b => candidateLe s a b = true := ⟨fun a b => by
      simp only [candidateLe_iff s hp, ← Bool.not_eq_true, goesBefore_iff]
      omega⟩
    have : IsTrans Dock fun a b => candidateLe s a b = true := ⟨fun a b c => by
      simp only [candidateLe_iff s hp, ← Bool.not_eq_true, goesBefore_iff]
      omega⟩
    rw [intakeDocks, sortBy_eq_insertionSort]
    exact List.pairwise_insertionSort _ _
  refine (hle.and intakeDocks_nodup).imp fun {a b} hab => ?_
  have hne : a.val ≠ b.val := fun hc => hab.2 (Fin.ext hc)
  have := (candidateLe_iff s hp a b).mp hab.1
  rw [← Bool.not_eq_true, goesBefore_iff] at this
  rw [goesBefore_iff]
  omega

end Sys2Proof.RoutePlans
end

section
/-! The setpoints of stages 4 and 5 in the words of the statement, and their totals (R90 to R93). -/

namespace Sys2Proof.RoutePlans

open Sys2Proof Sys2Proof.Machine

variable (s : State)

/-- The intake a dock is commanded. -/
def takenBy (d : Dock) : Nat := (-((runPass s).dock d).setpoint).toNat

/-- The outflow a dock is commanded. -/
def sentBy (d : Dock) : Nat := ((runPass s).dock d).setpoint.toNat

/-- The sum of a value over the docks of a test. -/
def sumOver (p : Dock → Bool) (f : Dock → Nat) : Nat := ((Dock.all.filter p).map f).sum

variable {s}

theorem sum_eq_sumOver {A : List Dock} (hA : A.Nodup) {p : Dock → Bool} (h : ∀ e, e ∈ A ↔ p e = true) {f g : Dock → Nat}
    (hfg : ∀ e ∈ A, f e = g e) : (A.map f).sum = sumOver p g := by
  have hperm : A.Perm (Dock.all.filter p) :=
    (List.perm_ext_iff_of_nodup hA ((List.nodup_finRange 40).filter p)).mpr fun e => by simp [h]
  rw [List.map_congr_left hfg]
  exact (hperm.map g).sum_eq

/-- Docks where the value is 0 may be left out of a sum, or brought in. -/
theorem sumOver_congr {p q : Dock → Bool} {f : Dock → Nat} (h : ∀ d, p d ≠ q d → f d = 0) : sumOver p f = sumOver q f := by
  have hsplit : ∀ (r : Dock → Bool) (l : List Dock), ((l.filter r).map f).sum = (l.map fun d => if r d then f d else 0).sum := by
    intro r l
    induction l with
    | nil => rfl
    | cons a l ih => by_cases hr : r a = true <;> simp [hr, ih]
  rw [sumOver, sumOver, hsplit, hsplit]
  refine congrArg List.sum (List.map_congr_left fun d _ => ?_)
  by_cases hd : p d = q d
  · rw [hd]
  · simp [h d hd]

variable (hn : s.slu.trip = .normal) (hok : s.DocksOk)

section
include hn

theorem passOutcome_normal : passOutcome s = normalOutcome s := if_pos hn

theorem setpoint_eq (d : Dock) : ((runPass s).dock d).setpoint = grantOf s d + ((runPass s).dock d).share := by
  rw [runPass_setpoint, runPass_share, PassOutcome.setpointOf, passOutcome_normal hn]
  rfl

end

section
include hok

theorem share_of_manual {d : Dock} {x : Int} (h : manualValue s d = some x) : ((runPass s).dock d).share = 0 := by
  rw [runPass_share]
  exact share_zero s fun c => by simp [(place_manual_iff hok).mpr h]

theorem share_of_candidate {d : Dock} (h : isCandidate s d = true) : ((runPass s).dock d).share = 0 := by
  rw [runPass_share]
  exact share_zero s fun c => by simp [(place_intake_iff hok).mpr h]

theorem mem_askers {d : Dock} : d ∈ askers s ↔ (manualValue s d).isSome = true ∨ isCandidate s d = true := by
  rw [askers, List.mem_append, mem_manualList, mem_intakeDocks_iff hok]

/-- A dock that does not ask has its share for its setpoint. -/
theorem setpoint_of_not_asker {d : Dock} (h : d ∉ askers s) : ((runPass s).dock d).setpoint = ((runPass s).dock d).share := by
  rw [mem_askers hok, not_or] at h
  rw [runPass_setpoint, runPass_share]
  refine setpoint_eq_share s (fun x hx => h.1 ?_) fun hx => h.2 ((place_intake_iff hok).mp hx)
  rw [(place_manual_iff hok).mp hx]
  rfl

end

include hn hok

theorem setpoint_of_asker {d : Dock} (h : d ∈ askers s) : ((runPass s).dock d).setpoint = grantOf s d := by
  have hshare : ((runPass s).dock d).share = 0 := by
    rcases (mem_askers hok).mp h with hm | hc
    · obtain ⟨x, hx⟩ := Option.isSome_iff_exists.mp hm
      exact share_of_manual hok hx
    · exact share_of_candidate hok hc
  rw [setpoint_eq hn, hshare]
  simp

/-- The sums of the grants over some of the askers, as sums of the setpoints. -/
theorem sum_grants {A : List Dock} (hA : A.Nodup) (hsub : ∀ e ∈ A, e ∈ askers s) {p : Dock → Bool} (h : ∀ e, e ∈ A ↔ p e = true) :
    (A.map fun e => (-grantOf s e).toNat).sum = sumOver p (takenBy s) ∧ (A.map fun e => (grantOf s e).toNat).sum = sumOver p (sentBy s) :=
  ⟨sum_eq_sumOver hA h fun e he => by rw [takenBy, setpoint_of_asker hn hok (hsub e he)],
    sum_eq_sumOver hA h fun e he => by rw [sentBy, setpoint_of_asker hn hok (hsub e he)]⟩

/-- A manual dock gets its value within what the manual docks before it leave of headroom and ceiling (R91). -/
theorem setpoint_of_manual {d : Dock} {x : Int} (hx : manualValue s d = some x) :
    ((runPass s).dock d).setpoint = granted x
      (intakeCeiling s - sumOver (fun e => (manualValue s e).isSome && decide (e < d)) (takenBy s))
      (hNow s - sumOver (fun e => (manualValue s e).isSome && decide (e < d)) (sentBy s)) := by
  have hmem : d ∈ manualList s := mem_manualList.mpr (by rw [hx]; rfl)
  obtain ⟨A, B, hAB⟩ := List.append_of_mem hmem
  have hsorted : (A ++ d :: B).Pairwise (· < ·) := hAB ▸ (List.pairwise_lt_finRange 40).filter _
  have hask : askers s = A ++ d :: (B ++ intakeDocks s) := by rw [askers, hAB, List.append_assoc, List.cons_append]
  have hbefore : ∀ e, e ∈ A ↔ ((manualValue s e).isSome && decide (e < d)) = true := fun e => by
    rw [mem_before_iff hsorted lt_irrefl (fun _ _ => lt_asymm), ← hAB, mem_manualList, Bool.and_eq_true, decide_eq_true_eq]
  have hnodup : A.Nodup := (hask ▸ askers_nodup hok).of_append_left
  have hsub : ∀ e ∈ A, e ∈ askers s := fun e he => hask ▸ List.mem_append_left _ he
  obtain ⟨htaken, hsent⟩ := sum_grants hn hok hnodup hsub hbefore
  rw [setpoint_of_asker hn hok (List.mem_append_left _ hmem), grantOf_asker hok hask, htaken, hsent, askOf, hx]
  rfl

omit hn hok in
/-- A grant of an intake (R92). -/
theorem granted_neg (n i e : Nat) : granted (-(n : Int)) i e = -((min n i : Nat) : Int) := by
  unfold granted
  split <;> omega

/-- An intake candidate gets its rated intake within what is left of the ceiling (R92). -/
theorem setpoint_of_candidate (hp : s.PlansOk) {d : Dock} (hc : isCandidate s d = true) :
    ((runPass s).dock d).setpoint = -((min (s.dock d).ratedIntake (intakeCeiling s - sumOver (fun e => (manualValue s e).isSome) (takenBy s) -
      sumOver (fun e => isCandidate s e && goesBefore s e d) (takenBy s)) : Nat) : Int) := by
  have hmem : d ∈ intakeDocks s := (mem_intakeDocks_iff hok).mpr hc
  obtain ⟨A, B, hAB⟩ := List.append_of_mem hmem
  have hsorted : (A ++ d :: B).Pairwise fun e d => goesBefore s e d = true := hAB ▸ intakeDocks_pairwise s hp
  have hask : askers s = (manualList s ++ A) ++ d :: B := by rw [askers, hAB, List.append_assoc]
  have hbefore : ∀ e, e ∈ A ↔ (isCandidate s e && goesBefore s e d) = true := fun e => by
    rw [mem_before_iff hsorted, ← hAB, mem_intakeDocks_iff hok, Bool.and_eq_true]
    · intro a ha
      have := (goesBefore_iff s a a).mp ha
      omega
    · intro a b hab hba
      have h1 := (goesBefore_iff s a b).mp hab
      have h2 := (goesBefore_iff s b a).mp hba
      omega
  have hnodup := (hask ▸ askers_nodup hok).of_append_left
  have hsub : ∀ e ∈ manualList s ++ A, e ∈ askers s := fun e he => hask ▸ List.mem_append_left _ he
  obtain ⟨hmanual, -⟩ := sum_grants hn hok hnodup.of_append_left (fun e he => hsub e (List.mem_append_left _ he)) fun e => mem_manualList
  obtain ⟨htaken, -⟩ := sum_grants hn hok hnodup.of_append_right (fun e he => hsub e (List.mem_append_right _ he)) hbefore
  rw [setpoint_of_asker hn hok (List.mem_append_right _ hmem), grantOf_asker hok hask, List.map_append, List.sum_append, hmanual, htaken, askOf,
    manualValue_of_candidate hc, Option.getD_none, granted_neg, Nat.sub_sub]

/-! ### The totals (R91, R92) -/

omit hn in
theorem takenBy_of_not_asker {d : Dock} (h : d ∉ askers s) : takenBy s d = 0 := by
  rw [takenBy, setpoint_of_not_asker hok h]
  omega

/-- The intake of the pass is the sum over all docks. -/
theorem passIntake_eq : passIntake s = sumOver (fun _ => true) (takenBy s) := by
  obtain ⟨hsum, -⟩ := sum_grants hn hok (askers_nodup hok) (fun _ he => he) (p := fun d => decide (d ∈ askers s)) (by simp)
  have hleft := (passGrants_left hok).1
  have hall : sumOver (fun d => decide (d ∈ askers s)) (takenBy s) = sumOver (fun _ => true) (takenBy s) :=
    sumOver_congr fun d hd => takenBy_of_not_asker hok (by simpa using hd)
  rw [passIntake]
  omega

/-- What the manual docks send is the sum over them. -/
theorem manualExport_eq (hp : s.PlansOk) : manualExport s = sumOver (fun e => (manualValue s e).isSome) (sentBy s) := by
  obtain ⟨-, hsum⟩ := sum_grants hn hok (askers_nodup hok) (fun _ he => he) (p := fun d => decide (d ∈ askers s)) (by simp)
  have hleft := (passGrants_left hok).2
  have hmanual : sumOver (fun d => decide (d ∈ askers s)) (sentBy s) = sumOver (fun e => (manualValue s e).isSome) (sentBy s) := by
    refine sumOver_congr fun d hd => ?_
    have hc : isCandidate s d = true := by
      by_contra hc
      simp [mem_askers hok, hc] at hd
    rw [sentBy, setpoint_of_candidate hn hok hp hc]
    omega
  rw [manualExport]
  omega

end Sys2Proof.RoutePlans
end

section
/-! The fill, the yield and the holds on the short band in the words of the statement (R42, R94 to R100). -/

namespace Sys2Proof.RoutePlans

open Sys2Proof Sys2Proof.Machine

variable (s : State)

/-- The gross amount to spread (R94). -/
def amountNow : Nat :=
  match eventNow s with
  | some r => (((min r.committed (min (headroomNow s) (s.alc.previousNet.toNat +
      s.slu.rampRate * ((s.dck.uptime + 4294967296 - s.alc.previousPass) % 4294967296))) : Nat) : Int) -
      sumOver (fun d => (manualValue s d).isSome) (sentBy s) + sumOver (fun _ => true) (takenBy s)).toNat
  | none => 0

/-- Whether the resting group gives up its rest: the caps at work fall short of the amount (R95). -/
def yieldsNow : Bool := (eventNow s).isSome && (restNow s).isSome && s.rot.yieldOn &&
  decide (sumOver (fun d => !isResting s d) (capOf s) < amountNow s)

/-- The docks of the fill (R95, R97). -/
def fillNow : List FillDock :=
  (Dock.all.filter fun d => decide (0 < capOf s d) && (yieldsNow s || !isResting s d)).map fun d =>
    { dock := d, cap := capOf s d, throughput := (s.dock d).dayThroughput / 100 }

/-- Whether the vehicle of a plan is held on the short band (R42, R100). -/
def isBanded (p : Plan) : Bool := decide (p.hold = .none) && !p.shortHoldOff && Dock.all.any fun d =>
  decide ((s.dock d).vehicle = some p.vehicle ∧ 0 < ((runPass s).dock d).share ∧ (s.dock d).stored ≤ floorAt s d p.vehicle + s.rpt.shortBand)

variable {s}

/-! ### Amount, yield and fill -/

section
variable (hok : s.DocksOk)
include hok

theorem eligibleDocks_eq :
    eligibleDocks s = (Dock.all.filter fun d => decide (0 < capOf s d) && !isResting s d).map fun d => fillDock s d (capOf s d) := by
  rw [eligibleDocks, ← filterMap_ite]
  refine List.filterMap_congr fun d _ => ?_
  split
  · next c hc =>
    obtain ⟨hpos, hrest, rfl⟩ := (place_eligible_iff hok).mp hc
    simp [Nat.pos_of_ne_zero hpos, hrest]
  · next hne =>
    rw [if_neg fun hc => ?_]
    simp only [Bool.and_eq_true, decide_eq_true_eq, Bool.not_eq_true'] at hc
    exact hne _ ((place_eligible_iff hok).mpr ⟨hc.1.ne', hc.2, rfl⟩)

theorem workAndRestDocks_eq :
    workAndRestDocks s = (Dock.all.filter fun d => decide (0 < capOf s d)).map fun d => fillDock s d (capOf s d) := by
  rw [workAndRestDocks, ← filterMap_ite]
  refine List.filterMap_congr fun d _ => ?_
  split
  · next c hc =>
    obtain ⟨hpos, -, rfl⟩ := (place_eligible_iff hok).mp hc
    simp [Nat.pos_of_ne_zero hpos]
  · next c hc =>
    obtain ⟨hpos, -, rfl⟩ := (place_resting_iff hok).mp hc
    simp [Nat.pos_of_ne_zero hpos]
  · next hne hnr =>
    rw [if_neg fun hc => ?_]
    have hpos : capOf s d ≠ 0 := (of_decide_eq_true hc).ne'
    cases hrest : isResting s d with
    | true => exact hnr _ ((place_resting_iff hok).mpr ⟨hpos, hrest, rfl⟩)
    | false => exact hne _ ((place_eligible_iff hok).mpr ⟨hpos, hrest, rfl⟩)

/-- The caps at work, Σc_work (R95). -/
theorem capSum_eligible : capSum (eligibleDocks s) = sumOver (fun d => !isResting s d) (capOf s) := by
  rw [capSum, eligibleDocks_eq hok, List.map_map]
  refine (sumOver_congr (p := fun d => decide (0 < capOf s d) && !isResting s d) fun d hd => ?_ :)
  by_contra hne
  have hpos : 0 < capOf s d := Nat.pos_of_ne_zero hne
  simp [hpos] at hd

end

variable (hn : s.slu.trip = .normal) (hok : s.DocksOk) (hp : s.PlansOk)
include hn hok hp

theorem amountNow_eq {r : EventRecord} (he : eventNow s = some r) : amountNow s = grossExport s r := by
  rw [amountNow, he, grossExport, manualExport_eq hn hok hp, passIntake_eq hn hok, headroomNow_eq]
  rfl

theorem yieldsNow_eq {r : EventRecord} (he : eventNow s = some r) : yieldsNow s = passYields s r := by
  rw [yieldsNow, passYields, amountNow_eq hn hok hp he, capSum_eligible hok, restNow_eq, he]
  rfl

theorem fillingDocks_eq {r : EventRecord} (he : eventNow s = some r) : fillingDocks s r = fillNow s := by
  rw [fillingDocks, fillNow, ← yieldsNow_eq hn hok hp he, workAndRestDocks_eq hok, eligibleDocks_eq hok]
  cases yieldsNow s <;> simp [fillDock]

theorem passShares_eq : passShares s = waterFill (fillNow s) (amountNow s) := by
  rw [passShares, ← eventNow_eq]
  cases he : eventNow s with
  | some r => simp only [fillingDocks_eq hn hok hp he, amountNow_eq hn hok hp he]
  | none =>
    have hcap : ∀ d, capOf s d = 0 := fun d => by simp [capOf, he]
    have hfill : fillNow s = [] := by simp [fillNow, hcap]
    rw [hfill]
    rfl

theorem share_eq (d : Dock) : ((runPass s).dock d).share = givenTo 0 (waterFill (fillNow s) (amountNow s)) d := by
  rw [runPass_share, passOutcome_normal hn, ← passShares_eq hn hok hp]
  rfl

theorem yielded_eq : (passOutcome s).yielded = yieldsNow s := by
  rw [passOutcome_normal hn]
  simp only [normalOutcome, ← eventNow_eq]
  cases he : eventNow s with
  | some r => exact (yieldsNow_eq hn hok hp he).symm
  | none => simp [yieldsNow, he]

/-! ### The holds on the short band (R42, R100) -/

omit hn hok hp in
theorem changeHolds_congr {c c' : Plan → Option (Plan × HoldCause)} (h : ∀ p ∈ s.rpt.plans, c p = c' p) : changeHolds c s = changeHolds c' s := by
  have hmap : (s.rpt.plans.map fun p => ((c p).map Prod.fst).getD p) = s.rpt.plans.map fun p => ((c' p).map Prod.fst).getD p :=
    List.map_congr_left fun p hp => by rw [h p hp]
  simp only [changeHolds, State.mapPlans, hmap, List.filterMap_congr h]

omit hn hok hp in
theorem mem_shortBandVehicles {shares : List (Dock × Nat)} {v : Nat} : v ∈ shortBandVehicles s shares ↔
    ∃ d, (s.dock d).vehicle = some v ∧ 0 < givenTo 0 shares d ∧ (s.dock d).stored ≤ passFloor s d + s.rpt.shortBand ∧
      (findPlan s.rpt.plans v).any (fun p => !p.shortHoldOff) = true := by
  unfold shortBandVehicles
  rw [List.mem_filterMap]
  constructor
  · rintro ⟨d, -, hd⟩
    dsimp only at hd
    split at hd
    · next u hu =>
      split at hd
      · next hc =>
        cases hd
        exact ⟨d, hu, hc⟩
      · cases hd
    · cases hd
  · rintro ⟨d, hv, hc⟩
    refine ⟨d, List.mem_finRange d, ?_⟩
    simp only [hv]
    exact if_pos hc

theorem mem_handOver {p : Plan} (hmem : p ∈ s.rpt.plans) :
    p.vehicle ∈ (passOutcome s).handOver ∧ p.hold = .none ↔ isBanded s p = true := by
  have hfind : findPlan s.rpt.plans p.vehicle = some p := findPlan_of_mem hp.ascending hmem rfl
  have hhand : (passOutcome s).handOver = shortBandVehicles s (passShares s) := by rw [passOutcome_normal hn]; rfl
  have hdock : ∀ d, ((s.dock d).vehicle = some p.vehicle ∧ 0 < givenTo 0 (passShares s) d ∧
      (s.dock d).stored ≤ passFloor s d + s.rpt.shortBand) ↔
      ((s.dock d).vehicle = some p.vehicle ∧ 0 < ((runPass s).dock d).share ∧
        (s.dock d).stored ≤ floorAt s d p.vehicle + s.rpt.shortBand) := fun d => by
    refine and_congr_right fun hv => ?_
    rw [passFloor_eq s hok hv, share_eq hn hok hp, passShares_eq hn hok hp]
  rw [hhand, mem_shortBandVehicles, hfind, isBanded, Bool.and_eq_true, Bool.and_eq_true, List.any_eq_true]
  simp only [decide_eq_true_eq, ← hdock, Option.any_some]
  constructor
  · rintro ⟨⟨d, hv, hs, hb, hoff⟩, hhold⟩
    exact ⟨⟨hhold, hoff⟩, d, List.mem_finRange d, hv, hs, hb⟩
  · rintro ⟨⟨hhold, hoff⟩, d, -, hv, hs, hb⟩
    exact ⟨⟨d, hv, hs, hb, hoff⟩, hhold⟩

/-- A pass in NORMAL holds the vehicles on the short band, and tells the Fleet Link of each (R42, R44, R100). -/
theorem runPass_holds :
    (runPass s).rpt.plans = s.rpt.plans.map (fun p => if isBanded s p then { p with hold := .hold, source := some .auto } else p) ∧
      (runPass s).fleet = (s.rpt.plans.filter (isBanded s)).foldl
        (fun q p => q.raise (.hold p.vehicle .shortBand .hold (some .auto) p.pendingHold)) s.fleet := by
  have hchange : applyShortBand (passOutcome s).handOver s =
      changeHolds (fun p => if isBanded s p then some ({ p with hold := .hold, source := some .auto }, .shortBand) else none) s := by
    refine changeHolds_congr fun p hmem => ?_
    rw [shortBandChange]
    simp only [mem_handOver hn hok hp hmem]
    rfl
  obtain ⟨hrpt, hfleet⟩ := changeHolds_ite s (isBanded s) (fun p => { p with hold := .hold, source := some .auto }) .shortBand
  rw [runPass_rpt, runPass_fleet, hchange]
  exact ⟨congrArg Rpt.plans hrpt, hfleet⟩

end Sys2Proof.RoutePlans
end

section
/-! What a pass decides and writes (R77 to R103). -/

namespace Sys2Proof.RoutePlans

open Sys2Proof Sys2Proof.Machine

variable {s : State} (hn : s.slu.trip = .normal) (hok : s.DocksOk) (hp : s.PlansOk)

/-! ### Shortfall and tally (R99, R144) -/

theorem runPass_peak : (runPass s).tly.tally = (if (eventNow s).isSome then
    s.tly.tally.map fun y => { y with peakShortfall := max y.peakShortfall (runPass s).alc.lastShortfall } else s.tly.tally) := by
  rw [runPass_tly, runPass_alc, eventNow_eq]
  split <;> rfl

include hn in
theorem runPass_shortfall : (runPass s).alc.lastShortfall =
    (match eventNow s with | some r => ((r.committed : Int) - (runPass s).alc.previousNet).toNat | none => 0) := by
  rw [runPass_alc, passOutcome_normal hn, eventNow_eq]
  cases h : activeRecord s.evq <;> simp only [normalOutcome, PassOutcome.alc, h]

/-! ### One dock in a pass in NORMAL -/

section
include hok

/-- The floor written is the one of the dock's vehicle (R82). -/
theorem runPass_floor_eq (d : Dock) :
    ((runPass s).dock d).floor = (match (s.dock d).vehicle with | some v => floorAt s d v | none => 0) := by
  rw [runPass_floor]
  cases hv : (s.dock d).vehicle with
  | some v => exact passFloor_eq s hok hv
  | none => exact passFloor_of_no_vehicle s hv

/-- Neither vehicle nor hold allowing it, a dock is given nothing (R85, R86). -/
theorem given_zero_of_unserved {d : Dock} (h : servedVehicle s d = none) :
    ((runPass s).dock d).setpoint = 0 ∧ ((runPass s).dock d).share = 0 := by
  have hplace := place_of_unserved h
  have hshare : ((runPass s).dock d).share = 0 := by
    rw [runPass_share]
    exact share_zero s fun c => by simp [hplace]
  refine ⟨?_, hshare⟩
  have hask : d ∉ askers s := by
    rw [mem_askers hok, ← place_intake_iff hok, hplace]
    simp [manualValue, h]
  rw [setpoint_of_not_asker hok hask, hshare]
  rfl

end

include hn hok

theorem manual_dock {d : Dock} (h : (s.dock d).steering = .manual) : ((runPass s).dock d).share = 0 ∧
    (match manualValue s d with
      | none => ((runPass s).dock d).setpoint = 0
      | some x =>
        if x < 0
        then ((runPass s).dock d).setpoint =
          -((min x.natAbs (intakeCeiling s - sumOver (fun e => (manualValue s e).isSome && decide (e < d)) (takenBy s)) : Nat) : Int)
        else ((runPass s).dock d).setpoint =
          ((min x.toNat (hNow s - sumOver (fun e => (manualValue s e).isSome && decide (e < d)) (sentBy s)) : Nat) : Int)) := by
  have hplace := place_of_manual h
  have hshare : ((runPass s).dock d).share = 0 := by
    rw [runPass_share]
    exact share_zero s fun c => by cases hm : manualValue s d <;> simp [hplace, hm]
  refine ⟨hshare, ?_⟩
  cases hm : manualValue s d with
  | none =>
    have hask : d ∉ askers s := by
      rw [mem_askers hok, ← place_intake_iff hok, hplace]
      simp [hm]
    simp only [setpoint_of_not_asker hok hask, hshare, Nat.cast_zero]
  | some x =>
    have hset := setpoint_of_manual hn hok hm
    rw [granted] at hset
    split_ifs at hset with hx
    · simpa only [if_pos hx] using hset
    · simpa only [if_neg hx] using hset

include hp

theorem free_dock {d : Dock} (ha : (s.dock d).steering = .allocator) (hc : isCandidate s d = false) :
    ((runPass s).dock d).share = givenTo 0 (waterFill (fillNow s) (amountNow s)) d ∧
    ((runPass s).dock d).setpoint = ((runPass s).dock d).share := by
  have hask : d ∉ askers s := by
    rw [mem_askers hok, hc]
    simp [manualValue, ha]
  exact ⟨share_eq hn hok hp d, setpoint_of_not_asker hok hask⟩

/-! ### The yield of a pass in NORMAL (R95, R115) -/

theorem runPass_lastYield : (runPass s).alc.lastYield = yieldsNow s := by
  rw [runPass_alc]
  exact yielded_eq hn hok hp

theorem runPass_yieldCount :
    (runPass s).rot.yieldCount = (if yieldsNow s then min 65535 (s.rot.yieldCount + 1) else s.rot.yieldCount) := by
  rw [runPass_rot, yielded_eq hn hok hp]
  cases yieldsNow s <;> rfl

end Sys2Proof.RoutePlans
end

section
/-! The pass as a whole. -/

namespace Sys2Proof.RoutePlans

open Sys2Proof Sys2Proof.Machine

/-- Settles O30: outside NORMAL nothing is commanded; every pass writes its records and queues its frames; in NORMAL each dock gets what its
place gives, and totals and holds follow. -/
theorem passWritesRecordsAndQueuesSetpoints : Obligations.PassWritesRecordsAndQueuesSetpoints := by
  intro s
  refine ⟨fun h => ⟨runPass_trip_dock h, runPass_trip_alc h, runPass_trip_rot h, runPass_trip_rpt h, fun he => ?_⟩,
    fun h => ⟨passWrites s h, ?_, runPass_evq s, runPass_slu s, runPass_dck s, runPass_grid s, runPass_pending s, runPass_draws s,
      runPass_rpt_params s, runPass_rot_params s, runPass_tly_rest s⟩,
    fun hn hok hp => ⟨fun d => ⟨runPass_floor_eq hok d, given_zero_of_unserved hok, fun hm => ?_, fun hc => ?_, fun ha hc => ?_⟩,
      runPass_shortfall hn, runPass_lastYield hn hok hp, runPass_yieldCount hn hok hp, runPass_peak,
      (runPass_holds hn hok hp).1, (runPass_holds hn hok hp).2⟩⟩
  · obtain ⟨-, -, htly, -⟩ := runPass_noEvent s (by rw [he]; rfl)
    exact htly
  · refine (runPass_dnc_full s).trans ?_
    rw [funext (marked_gets s)]
    rfl
  · have h := manual_dock hn hok hm
    rw [← headroomNow_eq] at h
    exact h
  · exact ⟨share_of_candidate hok hc, setpoint_of_candidate hn hok hp hc⟩
  · obtain ⟨hshare, hset⟩ := free_dock hn hok hp ha hc
    refine ⟨hshare.trans ?_, hset⟩
    change _ = (match (waterFill (fillNow s) (amountNow s)).find? (fun e => decide (e.1 = d)) with | some e => e.2 | none => 0)
    unfold givenTo
    cases (waterFill (fillNow s) (amountNow s)).find? (fun e => decide (e.1 = d)) <;> rfl

end Sys2Proof.RoutePlans
end

section
/-! The Event Queue under every command (R52 to R54, R142): first what leaves the queue, the tally's being open and the ids of the results as
they are. -/

namespace Sys2Proof.Dispatch

open Sys2Proof Sys2Proof.Machine Sys2Proof.RoutePlans

/-- What the soundness of the Event Queue speaks of: the queue, whether a tally is open, the event ids of the results (R52, R53, R142). -/
def eventView (s : State) : List EventRecord × Bool × List Nat := (s.evq, s.tly.tally.isSome, s.tly.results.map Result.eventId)

variable (s : State)

/-! ### The updates of the state -/

@[simp] theorem setDock_view (d : Dock) (r : DockRecord) : eventView (s.setDock d r) = eventView s := rfl
@[simp] theorem modifyDock_view (d : Dock) (f : DockRecord → DockRecord) : eventView (s.modifyDock d f) = eventView s := rfl
@[simp] theorem mapPort_view (l : Link) (f : Port → Port) : eventView (s.mapPort l f) = eventView s := by simp [eventView]
@[simp] theorem mapDnc_view (f : Dnc → Dnc) : eventView (s.mapDnc f) = eventView s := rfl
@[simp] theorem mapPlans_view (f : List Plan → List Plan) : eventView (s.mapPlans f) = eventView s := rfl
@[simp] theorem mapTally_view (f : Tally → Tally) : eventView (s.mapTally f) = eventView s := by simp [eventView]
@[simp] theorem drawn_view : eventView s.drawn = eventView s := rfl
@[simp] theorem settleExperm_view : eventView (settleExperm s) = eventView s := rfl
@[simp] theorem withSlu_view (u : Slu) : eventView { s with slu := u } = eventView s := rfl
@[simp] theorem raiseOn_view (l : Link) (n : Notice) : eventView (raiseOn l n s) = eventView s := by simp [eventView]
@[simp] theorem raiseBoth_view (n : Notice) : eventView (raiseBoth n s) = eventView s := by simp [eventView]
@[simp] theorem changeHolds_view (c : Plan → Option (Plan × HoldCause)) : eventView (changeHolds c s) = eventView s := by simp [eventView]

/-- A fold of operations that keep the view keeps it. -/
theorem foldl_view {α : Type} {f : State → α → State} (h : ∀ u a, eventView (f u a) = eventView u) (l : List α) :
    eventView (l.foldl f s) = eventView s := foldl_keeps eventView f h l s

@[simp] theorem runPass_view : eventView (runPass s) = eventView s := by
  have ht : (runPass s).tly.tally.isSome = s.tly.tally.isSome := by simpa using congrArg Option.isSome (runPass_tally s)
  simp only [eventView, runPass_evq, ht, runPass_results]

/-! ### The Dock Net Controller and the Dock Table -/

@[simp] theorem settleNet_view (c : NetCause) : eventView (settleNet c s) = eventView s := by
  unfold settleNet
  dsimp only
  split <;> simp

@[simp] theorem restartNet_view (c : NetCause) : eventView (restartNet c s) = eventView s := by
  unfold restartNet
  dsimp only
  split <;> simp

@[simp] theorem receiveForeign_view : eventView (receiveForeign s) = eventView s := by simp [receiveForeign, receivedWhole]
@[simp] theorem receiveInError_view (b : Bool) : eventView (receiveInError b s) = eventView s := by simp [receiveInError]
@[simp] theorem receiveAccepted_view (b : Bool) : eventView (receiveAccepted b s) = eventView s := by simp [receiveAccepted, receivedWhole]

@[simp] theorem takeCounters_view (d : Dock) (b : Bool) (n e i : Nat) : eventView (takeCounters d b n e i s) = eventView s := by
  unfold takeCounters
  dsimp only
  split <;> simp

@[simp] theorem dockNotice_view (d : Dock) (k : DockNoticeKind) (v : Nat) : eventView (dockNotice d k v s) = eventView s := raiseOn_view ..
@[simp] theorem enterFaulted_view (c : FaultCause) (d : Dock) : eventView (enterFaulted c d s) = eventView s := by simp [enterFaulted]
@[simp] theorem enterSilent_view (d : Dock) : eventView (enterSilent d s) = eventView s := by simp [enterSilent]

@[simp] theorem leaveFaulted_view (b : Binding) (d : Dock) : eventView (leaveFaulted b d s) = eventView s := by
  unfold leaveFaulted
  split <;> (dsimp only; split) <;> simp

@[simp] theorem bindVehicle_view (d : Dock) (x : Nat) : eventView (bindVehicle d x s) = eventView s := by simp [bindVehicle]

@[simp] theorem releaseVehicle_view (d : Dock) (u : Nat) (k : DockNoticeKind) : eventView (releaseVehicle d u k s) = eventView s := by
  simp only [releaseVehicle, examineWaiting, planReleased]
  split <;> simp

theorem bindAttempt_view {d : Dock} {x : Nat} {t : State} (h : bindAttempt d x s = some t) : eventView t = eventView s := by
  unfold bindAttempt at h
  split at h
  · cases h
    simp
  · split at h <;> cases h
    simp [moveOut]

@[simp] theorem statusRecord_view (d : Dock) (q : StatusReport) : eventView (statusRecord d q s) = eventView s := by simp [statusRecord]

@[simp] theorem statusReturn_view (d : Dock) : eventView (statusReturn d s) = eventView s := by
  unfold statusReturn
  dsimp only
  split
  · split <;> simp
  · rfl

@[simp] theorem bindOrFault_view (d : Dock) (x : Nat) (b : Binding) : eventView (bindOrFault d x b s).1 = eventView s := by
  unfold bindOrFault
  split
  · next h => exact bindAttempt_view s h
  · simp

@[simp] theorem bindOrKeep_view (d : Dock) (x : Nat) (b : Binding) : eventView (bindOrKeep d x b s).1 = eventView s := by
  unfold bindOrKeep
  split
  · next h => exact bindAttempt_view s h
  · rfl

@[simp] theorem statusVehicleTrusted_view (d : Dock) (x : Nat) : eventView (statusVehicleTrusted d x s).1 = eventView s := by
  unfold statusVehicleTrusted
  dsimp only
  split
  · split
    · rfl
    · split <;> simp
  · split <;> simp
  · split <;> simp

@[simp] theorem statusVehicleFaulted_view (d : Dock) (x : Nat) : eventView (statusVehicleFaulted d x s).1 = eventView s := by
  unfold statusVehicleFaulted
  dsimp only
  split
  · split
    · simp
    · split
      · next h => exact bindAttempt_view s h
      · simp
  · split
    · rfl
    · split <;> simp
  · split <;> simp

@[simp] theorem statusVehicle_view (d : Dock) (x : Nat) : eventView (statusVehicle d x s).1 = eventView s := by
  unfold statusVehicle
  split <;> simp

@[simp] theorem statusFault_view (d : Dock) (c : Nat) (b : Binding) : eventView (statusFault d c b s) = eventView s := by
  unfold statusFault
  dsimp only
  split
  · split
    · split
      · simp
      · split <;> simp
    · rfl
  · split <;> simp

@[simp] theorem checkPhaseEcho_view (d : Dock) (b : Bool) : eventView (checkPhaseEcho d b s) = eventView s := by
  unfold checkPhaseEcho
  dsimp only
  split
  · split
    · split <;> simp
    · simp
  · rfl

@[simp] theorem checkPower_view (d : Dock) (b : Bool) (m : Int) : eventView (checkPower d b m s) = eventView s := by
  unfold checkPower
  dsimp only
  split
  · split
    · split <;> simp
    · simp
  · rfl

@[simp] theorem takeStatus_view (d : Dock) (q : StatusReport) : eventView (takeStatus d q s) = eventView s := by
  unfold takeStatus statusChecks
  dsimp only
  split
  · rfl
  · split <;> simp

@[simp] theorem reportTimeout_view (d : Dock) : eventView (reportTimeout d s) = eventView s := by
  unfold reportTimeout
  split <;> simp

@[simp] theorem silentGrace_view (d : Dock) : eventView (silentGrace d s) = eventView s := by
  unfold silentGrace
  split
  · dsimp only
    split <;> simp
  · rfl

@[simp] theorem setpointEnded_view (d : Dock) (p a : Bool) : eventView (setpointEnded d p a s) = eventView s := by
  unfold setpointEnded
  dsimp only
  split
  · simp
  · split
    · split <;> simp
    · rfl

@[simp] theorem disableDock_view (d : Dock) : eventView (disableDock d s) = eventView s := by
  unfold disableDock
  dsimp only
  split <;> simp

@[simp] theorem receiveFrame_view (f : NetWire) : eventView (receiveFrame f s) = eventView s := by
  unfold receiveFrame handFrame
  split
  · rfl
  · split
    · split
      · split <;> simp
      · simp
    · simp

@[simp] theorem endAttempt_view (how : AttemptEnd) : eventView (endAttempt how s) = eventView s := by
  unfold endAttempt
  split
  · rfl
  · split
    · simp
    · dsimp only
      unfold reportEnd
      split
      · simp
      · simp
      · split <;> simp

/-! ### The trip line, the site limits and the timers -/

@[simp] theorem assertTrip_view : eventView (assertTrip s) = eventView s := by
  unfold assertTrip
  split
  · rfl
  · dsimp only
    rw [raiseBoth_view, withSlu_view, runPass_view, mapDnc_view, settleExperm_view]
    rfl

@[simp] theorem releaseTrip_view : eventView (releaseTrip s) = eventView s := by
  unfold releaseTrip
  split
  · exact raiseBoth_view _ _
  · rfl

@[simp] theorem expireHoldoff_view : eventView (expireHoldoff s) = eventView s := by
  unfold expireHoldoff
  split
  · dsimp only
    rw [raiseBoth_view, runPass_view, settleExperm_view]
    rfl
  · rfl

@[simp] theorem countTripSecond_view : eventView (countTripSecond s) = eventView s := by
  unfold countTripSecond
  split
  · rfl
  · dsimp only
    split
    · exact mapTally_view _ _
    · rfl

@[simp] theorem rollover_view : eventView (rollover s) = eventView s := by
  obtain ⟨hq, -, -, ht, -⟩ := rollover_frame s
  simp only [eventView, hq, ht]

@[simp] theorem checkDue_view : eventView (checkDue s) = eventView s := by
  unfold checkDue
  split <;> simp

@[simp] theorem checkDueOf_view (v : Nat) : eventView (checkDueOf v s) = eventView s := by
  unfold checkDueOf
  split <;> simp

@[simp] theorem settled_view (r : EventRecord) : eventView (settled r s) = eventView s := by simp [settled]

@[simp] theorem settlementIfReached_view : eventView (settlementIfReached s) = eventView s := by
  unfold settlementIfReached
  split
  · cases h : activeRecord s.evq with
    | none => simp only [passSettlement, h]
    | some r =>
      rw [passSettlement_eq s h]
      split <;> simp
  · rfl

@[simp] theorem overrideIfReached_view : eventView (overrideIfReached s) = eventView s := by
  unfold overrideIfReached
  split
  · exact runPass_view _
  · rfl

@[simp] theorem expireIntervalA_view : eventView (expireIntervalA s) = eventView s := by
  unfold expireIntervalA
  split
  · exact runPass_view _
  · rfl

@[simp] theorem expireIntervalB_view : eventView (expireIntervalB s) = eventView s := by
  unfold expireIntervalB
  split
  · exact runPass_view _
  · rfl

@[simp] theorem expireAllocation_view : eventView (expireAllocation s) = eventView s := by
  unfold expireAllocation
  split <;> simp

@[simp] theorem expireRecovery_view : eventView (expireRecovery s) = eventView s := by
  unfold expireRecovery
  split <;> simp

@[simp] theorem expireEchoWait_view : eventView (expireEchoWait s) = eventView s := by
  unfold expireEchoWait
  split <;> simp

@[simp] theorem takeAdvance_view (due : Bool) (o : UptimeOwner) : eventView (takeAdvance due s o) = eventView s := by
  cases o with
  | allocation =>
    unfold takeAdvance
    dsimp only
    split <;> simp
  | _ => simp [takeAdvance]

@[simp] theorem takeUptimeSecond_view : eventView (takeUptimeSecond s) = eventView s :=
  (foldl_view _ (fun u o => takeAdvance_view u _ o) _).trans rfl

end Sys2Proof.Dispatch
end

section
/-! The Event Queue under its own operations (R52 to R54, R65 to R75, R142, R152): starts, ends, expiries, revisions, withdrawals and calls. -/

namespace Sys2Proof.Dispatch

open Sys2Proof Sys2Proof.Machine Sys2Proof.RoutePlans

/-- What a record that stays may become: committed power and end not raised, called values kept, ACTIVE once and for all (R54, R65, R70). -/
structure Evolved (r q : EventRecord) : Prop where
  id : q.id = r.id
  committed : q.committed ≤ r.committed
  stop : q.stop ≤ r.stop
  start : q.start = r.start
  target : q.target = r.target
  committedInitial : q.committedInitial = r.committedInitial
  active : r.state = .active → q.state = .active ∧ q.actualStart = r.actualStart

theorem Evolved.refl (r : EventRecord) : Evolved r r := ⟨rfl, le_rfl, le_rfl, rfl, rfl, rfl, fun h => ⟨h, rfl⟩⟩

theorem Evolved.trans {r q p : EventRecord} (h : Evolved r q) (k : Evolved q p) : Evolved r p where
  id := k.id.trans h.id
  committed := k.committed.trans h.committed
  stop := k.stop.trans h.stop
  start := k.start.trans h.start
  target := k.target.trans h.target
  committedInitial := k.committedInitial.trans h.committedInitial
  active := fun ha => by
    obtain ⟨hq, hs⟩ := h.active ha
    obtain ⟨kp, ks⟩ := k.active hq
    exact ⟨kp, ks.trans hs⟩

/-- From `s` to `t` a sound queue stays sound, and every record of it has come from one that was there. -/
def Keeps (s t : State) : Prop := s.EventsOk → t.EventsOk ∧ ∀ q ∈ t.evq, ∃ r ∈ s.evq, Evolved r q

variable {s t u : State}

theorem view_evq (h : eventView t = eventView s) : t.evq = s.evq := congrArg Prod.fst h

theorem eventsOk_congr (h : eventView t = eventView s) (hok : s.EventsOk) : t.EventsOk := by
  obtain ⟨hq, hrest⟩ := Prod.mk.inj h
  obtain ⟨ht, hr⟩ := Prod.mk.inj hrest
  have hl := congrArg List.length hr
  simp only [List.length_map] at hl
  refine ⟨?_, ?_, ?_, ?_, ?_, ?_, ?_⟩
  · rw [hq]; exact hok.count
  · rw [hq]; exact hok.ordered
  · rw [hq]; exact hok.active_first
  · rw [hq, ht]; exact hok.tally_open
  · rw [hq]; exact hok.records
  · rw [hl]; exact hok.results
  · simp only [State.eventIds, hq, hr]
    exact hok.ids

theorem Keeps.of_view (h : eventView t = eventView s) : Keeps s t := fun hok =>
  ⟨eventsOk_congr h hok, fun q hq => ⟨q, view_evq h ▸ hq, .refl q⟩⟩

theorem Keeps.refl (s : State) : Keeps s s := .of_view rfl

theorem Keeps.trans (h : Keeps s t) (k : Keeps t u) : Keeps s u := fun hok => by
  obtain ⟨ht, hl⟩ := h hok
  obtain ⟨hu, kl⟩ := k ht
  refine ⟨hu, fun q hq => ?_⟩
  obtain ⟨p, hp, hpq⟩ := kl q hq
  obtain ⟨r, hr, hrp⟩ := hl p hp
  exact ⟨r, hr, hrp.trans hpq⟩

theorem Keeps.foldl {α : Type} {f : State → α → State} (hf : ∀ u a, Keeps u (f u a)) (l : List α) (h : Keeps s t) : Keeps s (l.foldl f t) :=
  foldl_keeps_pred (Keeps s) f l (fun u a _ hu => hu.trans (hf u a)) t h

/-! ### Records of a sound queue -/

theorem activeRecord_of_pending {l : List EventRecord} (h : ∀ r ∈ l, r.state = .pending) : activeRecord l = none := by
  cases l with
  | nil => rfl
  | cons a l => simp [activeRecord, h a]

/-- An ACTIVE record of a sound queue is its first (R52). -/
theorem active_is_first (hok : s.EventsOk) {r : EventRecord} (hr : r ∈ s.evq) (ha : r.state = .active) : ∃ rest, s.evq = r :: rest := by
  cases hq : s.evq with
  | nil => simp [hq] at hr
  | cons a l =>
    rcases List.mem_cons.mp (hq ▸ hr) with rfl | hl
    · exact ⟨l, rfl⟩
    · have := hok.active_first r (by simpa [hq] using hl)
      simp [ha] at this

theorem not_active (r : EventRecord) : r.state ≠ .active ↔ r.state = .pending := by cases r.state <;> simp

/-- A sound queue holds an ACTIVE record just when its first one is ACTIVE. -/
theorem holdsActive_eq (hok : s.EventsOk) : holdsActive s.evq = (activeRecord s.evq).isSome := by
  cases hq : s.evq with
  | nil => rfl
  | cons a l =>
    have hl : ∀ r ∈ l, r.state = .pending := fun r hr => hok.active_first r (by simpa [hq] using hr)
    by_cases ha : a.state = .active
    · simp [holdsActive, activeRecord, ha]
    · simp only [holdsActive, activeRecord, ha, List.any_cons, if_false, decide_false, Bool.false_or, Option.isSome_none]
      exact List.any_eq_false.mpr fun r hr => by simp [hl r hr]

/-- No two records of a sound queue have one id (R53). -/
theorem record_unique (hok : s.EventsOk) {r q : EventRecord} (hr : r ∈ s.evq) (hq : q ∈ s.evq) (h : q.id = r.id) : q = r :=
  List.inj_on_of_nodup_map (List.Nodup.of_append_left hok.ids) hq hr h

/-! ### Records that leave the queue -/

/-- A part of a sound queue is sound, when tally and ids go with it. -/
theorem eventsOk_of_sublist (hok : s.EventsOk) (hsub : t.evq.Sublist s.evq)
    (htally : t.tly.tally.isSome = true ↔ (activeRecord t.evq).isSome = true) (hres : t.tly.results.length ≤ 6) (hids : t.eventIds.Nodup) :
    t.EventsOk where
  count := hsub.length_le.trans hok.count
  ordered := hok.ordered.sublist hsub
  active_first := fun r hr => hok.active_first r (hsub.tail.subset hr)
  tally_open := htally
  records := fun r hr => hok.records r (hsub.subset hr)
  results := hres
  ids := hids

/-- Taking away records that are PENDING leaves the ACTIVE record (R69, R75). -/
theorem activeRecord_filter {l : List EventRecord} {p : EventRecord → Bool} (ht : ∀ r ∈ l.tail, r.state = .pending)
    (hp : ∀ r ∈ l, r.state = .active → p r = true) : activeRecord (l.filter p) = activeRecord l := by
  cases l with
  | nil => rfl
  | cons a l =>
    by_cases ha : a.state = .active
    · simp [activeRecord, hp a (by simp) ha, ha]
    · have hall : ∀ r ∈ a :: l, r.state = .pending := fun r hr => by
        rcases List.mem_cons.mp hr with rfl | hl
        · exact (not_active r).mp ha
        · exact ht r hl
      rw [activeRecord_of_pending hall, activeRecord_of_pending fun r hr => hall r (List.mem_of_mem_filter hr)]

/-- A new result's id joins the ids in use, and a full list loses its oldest (R152, R53). -/
theorem addResult_ids (x : Result) (y : Tly) {l : List Nat} (h : (l ++ x.eventId :: y.results.map Result.eventId).Nodup) :
    (l ++ (y.addResult x).results.map Result.eventId).Nodup := by
  obtain ⟨old, hsub, hold⟩ : ∃ old, old.Sublist y.results ∧ (y.addResult x).results = old ++ [x] := by
    unfold Tly.addResult
    split
    · exact ⟨_, .refl _, rfl⟩
    · exact ⟨_, List.tail_sublist _, rfl⟩
  have hperm : (l ++ (y.addResult x).results.map Result.eventId).Perm (l ++ x.eventId :: old.map Result.eventId) := by
    rw [hold, List.map_append]
    exact List.perm_append_comm.append_left l
  exact hperm.nodup_iff.mpr (h.sublist (((hsub.map _).cons_cons _).append_left l))

theorem addResult_length (x : Result) (y : Tly) (h : y.results.length ≤ 6) : (y.addResult x).results.length ≤ 6 := by
  unfold Tly.addResult
  split <;> simp <;> omega

theorem addResult_tally (x : Result) (y : Tly) : (y.addResult x).tally = y.tally := by
  unfold Tly.addResult
  split <;> rfl

/-- The end of the first record, ACTIVE: it leaves the queue, the tally closes into a result (R68, R149). -/
theorem endActive_keeps {r : EventRecord} {rest : List EventRecord} (hq : s.evq = r :: rest) (ha : r.state = .active) (cause : EndCause)
    (n : Nat) : Keeps s (endActive r cause n s) := fun hok => by
  obtain ⟨y, hy⟩ : ∃ y, s.tly.tally = some y := Option.isSome_iff_exists.mp (hok.tally_open.mpr (by simp [hq, activeRecord, ha]))
  obtain ⟨btly, -, -⟩ := beforeEndPass_open s hy r cause n
  have hview : eventView (endActive r cause n s) = eventView (beforeEndPass r cause n s) := by
    rw [endActive_eq, raiseBoth_view, runPass_view]
  have hevq : (beforeEndPass r cause n s).evq = rest := by simp [hq]
  have hids := hok.ids
  simp only [State.eventIds, hq, List.map_cons, List.cons_append] at hids
  have hok' : (beforeEndPass r cause n s).EventsOk := by
    refine eventsOk_of_sublist hok (by simp [hq]) ?_ ?_ ?_
    · rw [hevq, activeRecord_tail s hok hq, btly]
      simp
    · rw [btly]
      exact addResult_length _ _ hok.results
    · simp only [State.eventIds, hevq, btly]
      exact addResult_ids _ _ (List.perm_middle.nodup_iff.mpr hids)
  refine ⟨eventsOk_congr hview hok', fun q hmem => ⟨q, ?_, .refl q⟩⟩
  rw [(view_evq hview).trans hevq] at hmem
  rw [hq]
  exact List.mem_cons_of_mem _ hmem

/-- The expiries of a TIME SET take none but the Results List and the notices further (R75, R151). -/
theorem expire_fold (out : List EventRecord) (u : State) (hlen : u.tly.results.length ≤ 6)
    (hids : (u.evq.map EventRecord.id ++ (out.map EventRecord.id ++ u.tly.results.map Result.eventId)).Nodup) :
    let w := out.foldl (fun t r => expireRecord r t) u
    w.evq = u.evq ∧ w.tly.tally = u.tly.tally ∧ w.tly.results.length ≤ 6 ∧ w.eventIds.Nodup := by
  induction out generalizing u with
  | nil => exact ⟨rfl, rfl, hlen, hids⟩
  | cons r out ih =>
    have hq : (expireRecord r u).evq = u.evq := by simp [expireRecord]
    have ht : (expireRecord r u).tly = u.tly.addResult (expiredResult r) := by simp [expireRecord]
    have h := ih (expireRecord r u) (by rw [ht]; exact addResult_length _ _ hlen) (by
      rw [hq, ht, ← List.append_assoc]
      refine addResult_ids _ _ ?_
      refine List.Perm.nodup_iff ?_ |>.mp hids
      rw [List.append_assoc]
      exact List.perm_middle.symm.append_left _)
    rw [hq, ht, addResult_tally] at h
    exact h

theorem expirePassed_keeps : Keeps s (expirePassed s) := fun hok => by
  let passed : EventRecord → Bool := fun r => decide (r.state = .pending) && decide (r.stop ≤ s.dck.depotTime)
  have hperm : ((s.evq.filter fun r => !passed r).map EventRecord.id ++ ((s.evq.filter passed).map EventRecord.id ++
      s.tly.results.map Result.eventId)).Nodup := by
    rw [← List.append_assoc, ← List.map_append]
    refine List.Perm.nodup_iff ?_ |>.mp hok.ids
    refine (List.Perm.map _ ?_).append_right _
    exact (List.perm_append_comm.trans (List.filter_append_perm passed s.evq)).symm
  obtain ⟨hq, ht, hlen, hids⟩ := expire_fold (s.evq.filter passed) (s.mapEvq (List.filter fun r => !passed r)) hok.results hperm
  have hsub : (expirePassed s).evq.Sublist s.evq := by
    rw [show (expirePassed s).evq = s.evq.filter fun r => !passed r from hq]
    exact List.filter_sublist
  refine ⟨eventsOk_of_sublist hok hsub ?_ hlen hids, fun q hmem => ⟨q, hsub.subset hmem, .refl q⟩⟩
  rw [show (expirePassed s).tly.tally = s.tly.tally from ht, show (expirePassed s).evq = s.evq.filter fun r => !passed r from hq,
    activeRecord_filter hok.active_first fun r _ ha => by simp [passed, ha]]
  exact hok.tally_open

/-! ### Starts (R65, R66) -/

/-- The view after the start of the first record. -/
theorem startFirst_view {r : EventRecord} {rest : List EventRecord} (hq : s.evq = r :: rest) :
    eventView (startFirst s) = (r.started s.dck.depotTime :: rest, true, s.tly.results.map Result.eventId) := by
  simp only [startFirst, hq, raiseBoth_view, runPass_view]
  rfl

/-- The start of the first record, PENDING with its start reached. -/
theorem startFirst_keeps (hp : ∀ r ∈ s.evq.head?, r.state = .pending ∧ r.start ≤ s.dck.depotTime) : Keeps s (startFirst s) := fun hok => by
  cases hq : s.evq with
  | nil => simp only [startFirst, hq]; exact ⟨hok, fun q h => absurd h (by simp)⟩
  | cons r rest =>
    obtain ⟨hpend, hle⟩ := hp r (by simp [hq])
    obtain ⟨he, hrest⟩ := Prod.mk.inj (startFirst_view hq)
    obtain ⟨ht, hr⟩ := Prod.mk.inj hrest
    have hlen := congrArg List.length hr
    simp only [List.length_map] at hlen
    have hc := hok.records r (by simp [hq])
    have hev : Evolved r (r.started s.dck.depotTime) := ⟨rfl, le_rfl, le_rfl, rfl, rfl, rfl, fun h => by simp [hpend] at h⟩
    have hord := hok.ordered
    rw [hq, List.pairwise_cons] at hord
    refine ⟨⟨?_, ?_, ?_, ?_, ?_, ?_, ?_⟩, fun q hmem => ?_⟩
    · rw [he]; simpa [hq] using hok.count
    · rw [he]; exact List.pairwise_cons.mpr hord
    · rw [he]; simpa [hq] using hok.active_first
    · rw [he, ht]; simp [activeRecord, EventRecord.started]
    · rw [he]
      intro q hmem
      rcases List.mem_cons.mp hmem with rfl | hmem
      · exact ⟨hc.committed_low, hc.committed_high, hc.window, by simp [EventRecord.started], by simpa [EventRecord.started] using hle⟩
      · exact hok.records q (by simp [hq, hmem])
    · rw [hlen]; exact hok.results
    · simp only [State.eventIds, he, hr]
      simpa [State.eventIds, hq, EventRecord.started] using hok.ids
    · rw [he] at hmem
      rcases List.mem_cons.mp hmem with rfl | hmem
      · exact ⟨r, by simp, hev⟩
      · exact ⟨q, by simp [hmem], .refl q⟩

theorem startIfReached_keeps : Keeps s (startIfReached s) := by
  unfold startIfReached
  split
  · next h =>
    refine startFirst_keeps fun r hr => ?_
    cases hq : s.evq with
    | nil => simp [hq] at hr
    | cons a l =>
      obtain rfl : a = r := by simpa [hq] using hr
      simpa [startReached, hq] using h
  · exact .refl s

theorem endIfReached_keeps : Keeps s (endIfReached s) := by
  cases hq : s.evq with
  | nil => rw [endIfReached_nil s hq]; exact .refl s
  | cons r rest =>
    rw [endIfReached_cons s hq]
    split
    · next h => exact endActive_keeps hq h.1 _ _
    · exact .refl s

theorem takeReached_keeps (first : Option Nat) : Keeps s (takeReached first s) := by
  rcases takeReached_cases s first with ⟨_, e⟩ | ⟨_, _, e⟩ | ⟨_, _, e⟩ <;> rw [e]
  · exact .refl s
  · exact endIfReached_keeps
  · exact endIfReached_keeps.trans startIfReached_keeps

theorem takeAfterRequest_keeps : Keeps s (takeAfterRequest s) := by
  rcases takeAfterRequest_cases s with ⟨_, _, e⟩ | ⟨_, e⟩ <;> rw [e]
  · exact .refl s
  · exact (Keeps.of_view (drawn_view s)).trans (takeReached_keeps _)

/-! ### Revisions and withdrawals (R69 to R71) -/

theorem find_record (hok : s.EventsOk) {r : EventRecord} (hr : r ∈ s.evq) :
    (s.evq.find? fun q => decide (q.id = r.id)) = some r := by
  cases h : s.evq.find? fun q => decide (q.id = r.id) with
  | none => simpa using List.find?_eq_none.mp h r hr
  | some q => rw [record_unique hok hr (List.mem_of_find?_eq_some h) (by simpa using List.find?_some h)]

/-- A revision that is not refused lowers, and leaves a window of 300 s and 10 tenths at least (R70, R71). -/
theorem revised_of_accepted {now target stop : Nat} {r : EventRecord} (hc : r.Consistent) (h : reviseRefusal now target stop r = none) :
    (r.revised target stop).Consistent ∧ Evolved r (r.revised target stop) := by
  have href : r.start ≤ r.referenceStart := by
    unfold EventRecord.referenceStart
    split
    · cases ha : r.actualStart with
      | none => exact le_rfl
      | some a => exact hc.started_late a ha
    · exact le_rfl
  have hlow := hc.committed_low
  have hhigh := hc.committed_high
  have hwin := hc.window
  unfold reviseRefusal at h
  split at h
  · cases h
  next h1 =>
  split at h
  · cases h
  next h2 =>
  split at h
  · cases h
  next h3 =>
  split at h
  · cases h
  next h4 =>
  have hcommitted : 10 ≤ (r.revised target stop).committed ∧ (r.revised target stop).committed ≤ r.committed := by
    simp only [EventRecord.revised]
    split <;> omega
  have hstop : (r.revised target stop).stop ≤ r.stop ∧ r.start + 300 ≤ (r.revised target stop).stop := by
    simp only [EventRecord.revised]
    split <;> omega
  exact ⟨⟨hcommitted.1, ⟨hcommitted.2.trans hhigh.1, hhigh.2⟩, hstop.2, hc.active_start, hc.started_late⟩,
    ⟨rfl, hcommitted.2, hstop.1, rfl, rfl, rfl, fun ha => ⟨ha, rfl⟩⟩⟩

/-- Records changed in place, each to what it may become, leave a sound queue sound. -/
theorem Keeps.mapRecords {f : EventRecord → EventRecord} (hq : t.evq = s.evq.map f) (htly : t.tly = s.tly)
    (hf : s.EventsOk → ∀ r ∈ s.evq, (f r).Consistent ∧ Evolved r (f r) ∧ (f r).state = r.state) : Keeps s t := fun hok => by
  have hf := hf hok
  refine ⟨⟨?_, ?_, ?_, ?_, ?_, ?_, ?_⟩, fun q hmem => ?_⟩
  · rw [hq, List.length_map]; exact hok.count
  · rw [hq, List.pairwise_map]
    refine hok.ordered.imp_of_mem fun {a b} ha hb hab => ?_
    rw [(hf a ha).2.1.start, (hf b hb).2.1.start]
    exact ⟨hab.1, (hf a ha).2.1.stop.trans hab.2⟩
  · rw [hq, ← List.map_tail]
    intro q hmem
    obtain ⟨r, hr, rfl⟩ := List.mem_map.mp hmem
    rw [(hf r (List.mem_of_mem_tail hr)).2.2]
    exact hok.active_first r hr
  · have hact : (activeRecord t.evq).isSome = (activeRecord s.evq).isSome := by
      rw [hq]
      cases hl : s.evq with
      | nil => rfl
      | cons a l =>
        have := (hf a (by simp [hl])).2.2
        by_cases ha : a.state = .active <;> simp [activeRecord, this, ha]
    rw [hact, htly]
    exact hok.tally_open
  · rw [hq]
    intro q hmem
    obtain ⟨r, hr, rfl⟩ := List.mem_map.mp hmem
    exact (hf r hr).1
  · rw [htly]; exact hok.results
  · have hids : t.evq.map EventRecord.id = s.evq.map EventRecord.id := by
      rw [hq, List.map_map]
      exact List.map_congr_left fun r hr => (hf r hr).2.1.id
    rw [State.eventIds, hids, htly]
    exact hok.ids
  · rw [hq] at hmem
    obtain ⟨r, hr, rfl⟩ := List.mem_map.mp hmem
    exact ⟨r, hr, (hf r hr).2.1⟩

theorem reviseNamed_keeps (id target stop : Nat) : Keeps s (reviseNamed id target stop s).1 := by
  unfold reviseNamed
  split
  · exact .refl s
  next r hfind =>
  split
  · exact .refl s
  next haccepted =>
  dsimp only
  refine Keeps.trans (Keeps.mapRecords (t := s.mapEvq _) rfl rfl fun hok x hx => ?_) (.of_view (raiseBoth_view _ _))
  split
  · next hid =>
    obtain rfl : x = r := record_unique hok (List.mem_of_find?_eq_some hfind) hx (by
      have := List.find?_some hfind
      simp only [decide_eq_true_eq] at this
      omega)
    obtain ⟨hc, he⟩ := revised_of_accepted (hok.records x hx) haccepted
    exact ⟨hc, he, rfl⟩
  · exact ⟨hok.records x hx, .refl x, rfl⟩

theorem cancelNamed_keeps (id : Nat) : Keeps s (cancelNamed id s).1 := by
  unfold cancelNamed
  split
  · exact .refl s
  next r hfind =>
  have hr := List.mem_of_find?_eq_some hfind
  have hid : r.id = id := by simpa using List.find?_some hfind
  split
  · next hp =>
    refine Keeps.trans (fun hok => ?_) (.of_view (raiseBoth_view _ _))
    have hsub : (s.mapEvq (List.filter fun q => decide (q.id ≠ id))).evq.Sublist s.evq := List.filter_sublist
    refine ⟨eventsOk_of_sublist hok hsub ?_ hok.results ?_, fun q hmem => ⟨q, hsub.subset hmem, .refl q⟩⟩
    · have hother : ∀ q ∈ s.evq, q.state = .active → decide (q.id ≠ id) = true := fun q hq ha => decide_eq_true fun hqid => by
        rw [record_unique hok hr hq (by omega), hp] at ha
        cases ha
      rw [State.mapEvq_evq, activeRecord_filter hok.active_first hother]
      exact hok.tally_open
    · exact hok.ids.sublist ((hsub.map _).append_right _)
  · next ha => exact fun hok => endActive_keeps (active_is_first hok hr ha).choose_spec ha _ _ hok

/-! ### Calls (R52 to R59) -/

/-- From `s` to `t` a sound queue stays sound, and every record of it has come from one that was there, or is one called anew. -/
def KeepsOrCalls (s t : State) : Prop :=
  s.EventsOk → t.EventsOk ∧ ∀ q ∈ t.evq, (∃ r ∈ s.evq, Evolved r q) ∨ q.id ∉ s.evq.map EventRecord.id

theorem Keeps.orCalls (h : Keeps s t) : KeepsOrCalls s t := fun hok => ⟨(h hok).1, fun q hq => .inl ((h hok).2 q hq)⟩

theorem KeepsOrCalls.trans (h : KeepsOrCalls s t) (k : Keeps t u) : KeepsOrCalls s u := fun hok => by
  obtain ⟨ht, hl⟩ := h hok
  obtain ⟨hu, kl⟩ := k ht
  refine ⟨hu, fun q hq => ?_⟩
  obtain ⟨p, hp, hpq⟩ := kl q hq
  rcases hl p hp with ⟨r, hr, hrp⟩ | hnew
  · exact .inl ⟨r, hr, hrp.trans hpq⟩
  · exact .inr (hpq.id ▸ hnew)

theorem KeepsOrCalls.after_view (hv : eventView t = eventView s) (h : KeepsOrCalls t u) : KeepsOrCalls s u := fun hok => by
  have hq : t.evq = s.evq := congrArg Prod.fst hv
  obtain ⟨hu, hl⟩ := h (eventsOk_congr hv hok)
  exact ⟨hu, hq ▸ hl⟩

theorem mem_insertEvent {r q : EventRecord} {l : List EventRecord} : q ∈ insertEvent r l ↔ q = r ∨ q ∈ l := by
  rw [insertEvent, (insertBy_perm _ r l).mem_iff, List.mem_cons]

theorem insertEvent_head {r : EventRecord} {l : List EventRecord} : ∀ q ∈ (insertEvent r l).head?, q.start ≤ r.start := by
  cases l with
  | nil => simp [insertEvent, insertBy]
  | cons a l =>
    unfold insertEvent insertBy
    split
    · simp
    · next h =>
      have : ¬r.start ≤ a.start := by simpa using h
      simp
      omega

/-- Two windows apart, each at least 300 s long, are in order (R52). -/
def Apart (r q : EventRecord) : Prop := q.stop ≤ r.start ∨ r.stop ≤ q.start

/-- A record called into a free window keeps the order (R52, R59). -/
theorem insertEvent_ordered {r : EventRecord} {l : List EventRecord} (hl : l.Pairwise fun a b => a.start < b.start ∧ a.stop ≤ b.start)
    (hr : r.start < r.stop) (hwin : ∀ q ∈ l, q.start < q.stop) (hap : ∀ q ∈ l, Apart r q) :
    (insertEvent r l).Pairwise fun a b => a.start < b.start ∧ a.stop ≤ b.start := by
  induction l with
  | nil => simp [insertEvent, insertBy]
  | cons a l ih =>
    obtain ⟨ha, hl'⟩ := List.pairwise_cons.mp hl
    have hra := hap a List.mem_cons_self
    have hwa := hwin a List.mem_cons_self
    unfold Apart at hra
    unfold insertEvent insertBy
    split
    · next hle =>
      have hle := of_decide_eq_true hle
      have hbefore : r.start < a.start ∧ r.stop ≤ a.start := by omega
      refine List.pairwise_cons.mpr ⟨fun q hq => ?_, hl⟩
      rcases List.mem_cons.mp hq with rfl | hq
      · exact hbefore
      · have := ha q hq
        omega
    · next hle =>
      have hle : ¬r.start ≤ a.start := by simpa using hle
      refine List.pairwise_cons.mpr ⟨fun q hq => ?_, ih hl' (fun q hq => hwin q (by simp [hq])) fun q hq => hap q (by simp [hq])⟩
      rcases mem_insertEvent.mp hq with rfl | hq
      · omega
      · exact ha q hq

/-- A record inserted not ahead of an ACTIVE one leaves the first record ACTIVE, or, where none is, none (R52, log 34). -/
theorem insertEvent_active {r : EventRecord} {l : List EventRecord} (hp : r.state = .pending) (ht : ∀ q ∈ l.tail, q.state = .pending)
    (hahead : ∀ q ∈ l, q.state = .active → q.start < r.start) :
    activeRecord (insertEvent r l) = activeRecord l ∧ ∀ q ∈ (insertEvent r l).tail, q.state = .pending := by
  cases l with
  | nil => simp [insertEvent, insertBy, activeRecord, hp]
  | cons a l =>
    by_cases ha : a.state = .active
    · have hlt := hahead a List.mem_cons_self ha
      have hins : insertEvent r (a :: l) = a :: insertEvent r l := by simp [insertEvent, insertBy, hlt]
      rw [hins]
      refine ⟨rfl, fun q hq => ?_⟩
      rcases mem_insertEvent.mp hq with rfl | hq
      · exact hp
      · exact ht q hq
    · have hall : ∀ q ∈ insertEvent r (a :: l), q.state = .pending := fun q hq => by
        rcases mem_insertEvent.mp hq with rfl | hq
        · exact hp
        · rcases List.mem_cons.mp hq with rfl | hq
          · exact (not_active q).mp ha
          · exact ht q hq
      rw [activeRecord_of_pending hall]
      refine ⟨by simp [activeRecord, ha], fun q hq => hall q (List.mem_of_mem_tail hq)⟩

/-! ### The checks on a call (R56, R57) -/

theorem eventIdHeld_iff (id : Nat) : eventIdHeld s id = true ↔ id ∈ s.evq.map EventRecord.id ∨ id ∈ s.tly.results.map Result.eventId := by
  simp [eventIdHeld]

theorem badWindow_iff (now start stop : Nat) : badWindow now start stop = true ↔
    stop < start + 300 ∨ start + 14400 < stop ∨ now + 172800 < start ∨ 4000000000 < stop := by
  have hshort : (stop : Int) - start < 300 ↔ stop < start + 300 := by omega
  have hlong : (14400 : Int) < (stop : Int) - start ↔ start + 14400 < stop := by omega
  simp only [badWindow, Bool.or_eq_true, decide_eq_true_eq, hshort, hlong, or_assoc]
  exact Iff.rfl

theorem overlap_iff (l : List EventRecord) (start stop : Nat) : l.any (fun r => windowsOverlap start stop r.start r.stop) = true ↔
    ∃ r ∈ l, start < r.stop ∧ r.start < stop := by
  simp [windowsOverlap]

theorem aheadOfActive_iff (l : List EventRecord) (start : Nat) :
    aheadOfActive start l = true ↔ ∃ r ∈ l, r.state = .active ∧ start < r.start := by
  simp [aheadOfActive]

/-- The checks on a call in the words of the statements: each in its place, the reason it gives, and what passes them all. -/
theorem callRefusal_eq (s : State) (id start stop : Nat) : callRefusal s id start stop =
    if s.dck.running = false then some .clockUnset
    else if id = 0 ∨ id ∈ s.evq.map EventRecord.id ∨ id ∈ s.tly.results.map Result.eventId then some .duplicateId
    else if stop < start + 300 ∨ start + 14400 < stop ∨ s.dck.depotTime + 172800 < start ∨ 4000000000 < stop then some .badWindow
    else if stop ≤ s.dck.depotTime then some .past
    else if (∃ r ∈ s.evq, start < r.stop ∧ r.start < stop) ∨ (start ≤ s.dck.depotTime ∧ holdsActive s.evq = true) ∨
        (∃ r ∈ s.evq, r.state = .active ∧ start < r.start) then some .overlap
    else if 8 ≤ s.evq.length then some .queueFull
    else none := by
  simp only [callRefusal, eventIdHeld_iff, badWindow_iff, overlap_iff, aheadOfActive_iff]

/-- A call that passed its checks finds id, window and queue free. -/
structure CallFits (s : State) (id start stop : Nat) : Prop where
  fresh : id ∉ s.evq.map EventRecord.id ∧ id ∉ s.tly.results.map Result.eventId
  window : start + 300 ≤ stop
  apart : ∀ r ∈ s.evq, r.stop ≤ start ∨ stop ≤ r.start
  late : start ≤ s.dck.depotTime → ∀ r ∈ s.evq, r.state = .pending
  behind : ∀ r ∈ s.evq, r.state = .active → r.start ≤ start
  room : s.evq.length < 8

theorem callFits_of_accepted {id start stop : Nat} (h : callRefusal s id start stop = none) : CallFits s id start stop := by
  rw [callRefusal_eq] at h
  split at h
  · cases h
  split at h
  · cases h
  next hid =>
  split at h
  · cases h
  next hwin =>
  split at h
  · cases h
  split at h
  · cases h
  next hover =>
  split at h
  · cases h
  next hroom =>
  simp only [not_or, not_exists, not_and] at hid hover
  refine ⟨hid.2, by omega, fun r hr => ?_, fun hle r hr => ?_, fun r hr ha => ?_, by omega⟩
  · have := hover.1 r hr
    omega
  · have := hover.2.1 hle
    exact (not_active r).mp fun ha => this (List.any_eq_true.mpr ⟨r, hr, decide_eq_true ha⟩)
  · have := hover.2.2 r hr ha
    omega

/-- A call decided for commits at least 10 tenths and at most its target (R58). -/
theorem callDecision_range {offer target minAccept committed : Nat} {reduced : Bool}
    (h : callDecision offer target minAccept = some (committed, reduced)) : 10 ≤ committed ∧ committed ≤ target := by
  unfold callDecision at h
  split at h
  · cases h; omega
  · split at h <;> cases h
    omega

/-- A record called into a sound queue (R59). -/
theorem insertEvent_keeps {id start stop target committed : Nat} (hfit : CallFits s id start stop) (hc : 10 ≤ committed ∧ committed ≤ target) :
    KeepsOrCalls s (s.mapEvq (insertEvent (calledRecord id start stop target committed))) := fun hok => by
  have hwindow : ∀ r ∈ s.evq, r.start < r.stop := fun r hr => by
    have := (hok.records r hr).window
    omega
  have hsw := hfit.window
  obtain ⟨hact, htail⟩ := insertEvent_active (r := calledRecord id start stop target committed) rfl hok.active_first fun r hr ha => by
    have h1 := hfit.behind r hr ha
    have h2 := hfit.apart r hr
    have h3 := hwindow r hr
    simp only [calledRecord]
    omega
  refine ⟨⟨?_, ?_, htail, ?_, ?_, hok.results, ?_⟩, fun q hq => ?_⟩
  · have := (insertBy_perm (fun a b => decide (a.start ≤ b.start)) (calledRecord id start stop target committed) s.evq).length_eq
    have hroom := hfit.room
    simp only [State.mapEvq_evq, insertEvent]
    rw [this, List.length_cons]
    omega
  · exact insertEvent_ordered hok.ordered (by simp only [calledRecord]; omega) hwindow hfit.apart
  · rw [State.mapEvq_evq, hact]
    exact hok.tally_open
  · intro q hq
    rcases mem_insertEvent.mp hq with rfl | hq
    · exact ⟨hc.1, ⟨le_rfl, hc.2⟩, hfit.window, by simp [calledRecord], by simp [calledRecord]⟩
    · exact hok.records q hq
  · have hperm := ((insertBy_perm (fun a b => decide (a.start ≤ b.start)) (calledRecord id start stop target committed) s.evq).map
      EventRecord.id).append_right (s.tly.results.map Result.eventId)
    refine hperm.nodup_iff.mpr (List.nodup_cons.mpr ⟨?_, hok.ids⟩)
    simpa [calledRecord] using hfit.fresh
  · rcases mem_insertEvent.mp hq with rfl | hq
    · exact .inr hfit.fresh.1
    · exact .inl ⟨q, hq, .refl q⟩

theorem requestCall_keeps (id start stop target minAccept : Nat) : KeepsOrCalls s (requestCall id start stop target minAccept s).1 := by
  unfold requestCall
  split
  · exact (Keeps.refl s).orCalls
  next haccepted =>
  have hfit := callFits_of_accepted haccepted
  dsimp only
  split
  · exact (Keeps.refl s).orCalls
  next committed reduced hdecision =>
  have hin := (insertEvent_keeps hfit (callDecision_range hdecision)).trans (.of_view (raiseBoth_view _
    (eventNotice .called (calledRecord id start stop target committed))))
  dsimp only
  split
  · next hlate =>
    have hlate := of_decide_eq_true hlate
    refine hin.trans (startFirst_keeps fun r hr => ?_)
    rw [raiseBoth_evq, State.mapEvq_evq] at hr
    rw [raiseBoth_dck, State.mapEvq_dck]
    refine ⟨?_, (insertEvent_head r hr).trans hlate⟩
    rcases mem_insertEvent.mp (List.mem_of_mem_head? hr) with rfl | hmem
    · rfl
    · exact hfit.late hlate r hmem
  · exact hin

end Sys2Proof.Dispatch
end

section
/-! The Event Queue under moments, requests, commands and steps (R52 to R54, R142). -/

namespace Sys2Proof.Dispatch

open Sys2Proof Sys2Proof.Machine Sys2Proof.RoutePlans

variable {s : State}

/-! ### Moments of the clock (R156 to R160) -/

theorem takeMoment_keeps (m : ClockMove) (o : Moment) : Keeps s (takeMoment m s o) := by
  cases o <;> (unfold takeMoment; dsimp only; split)
  case eventQueue.isTrue =>
    unfold eventMoments
    split
    · exact expirePassed_keeps.trans (takeReached_keeps _)
    · exact takeReached_keeps _
  case planTable.isTrue => exact .of_view (checkDue_view s)
  case tally.isTrue => exact .of_view (settlementIfReached_view s)
  case halfHour.isTrue => exact .of_view (runPass_view s)
  case limit.isTrue => exact .of_view (overrideIfReached_view s)
  all_goals exact .refl s

theorem deliver_keeps (l : List Moment) (m : ClockMove) : Keeps s (deliver l m s) :=
  (Keeps.refl s).foldl (fun _ o => takeMoment_keeps m o) l

theorem takeDepotSecond_keeps : Keeps s (takeDepotSecond s) := by
  unfold takeDepotSecond countDepotSecond
  split
  · dsimp only
    refine Keeps.trans (.of_view ?_) (deliver_keeps _ _)
    split
    · exact (rollover_view _).trans rfl
    · rfl
  · exact .of_view (drawn_view s)

theorem setClock_keeps (l : List Moment) (n : Nat) : Keeps s (setClock l n s) := by
  unfold setClock
  dsimp only
  refine Keeps.trans (.of_view ?_) (deliver_keeps _ _)
  split
  · exact (rollover_view _).trans rfl
  · rfl

theorem trimClock_keeps (l : List Moment) (d : Int) : Keeps s (trimClock l d s) := by
  unfold trimClock
  dsimp only
  refine Keeps.trans (.of_view ?_) (deliver_keeps _ _)
  split
  · exact (rollover_view _).trans rfl
  · rfl

theorem takePeriod_keeps : Keeps s (takePeriod s) := by
  have hevent : ∀ (u : State) (e : PeriodEvent), Keeps u (takePeriodEvent u e) := fun u e => by
    unfold takePeriodEvent
    split
    · cases e with
      | uptimeSecond => exact .of_view (takeUptimeSecond_view u)
      | depotSecond => exact takeDepotSecond_keeps
      | echoWait => exact .of_view (expireEchoWait_view u)
    · exact .refl u
  have hcount : eventView (countPeriod s) = eventView s := rfl
  unfold takePeriod
  dsimp only
  split
  · exact .of_view hcount
  · exact (Keeps.of_view ((drawn_view _).trans hcount)).foldl hevent _

/-! ### Requests that leave the queue (R183) -/

section
variable (s : State)

@[simp] theorem requestHeadroomLoad_view (first : Nat) (daily : Bool) (l : List Nat) :
    eventView (requestHeadroomLoad first daily l s).1 = eventView s := by
  unfold requestHeadroomLoad
  split
  · rfl
  · dsimp only
    rw [runPass_view, settleExperm_view]
    rfl

@[simp] theorem requestHeadroomOverride_view (v e : Nat) : eventView (requestHeadroomOverride v e s).1 = eventView s := by
  unfold requestHeadroomOverride
  split
  · rfl
  · split
    · rfl
    · dsimp only
      rw [runPass_view, withSlu_view]

@[simp] theorem requestOffer_view (start stop : Nat) : eventView (requestOffer start stop s).1 = eventView s := by
  unfold requestOffer
  dsimp only
  split
  · rfl
  · split
    · rfl
    · split <;> rfl

/-- To mark a result read keeps its id (R153). -/
@[simp] theorem requestResult_view (id first : Nat) : eventView (requestResult id first s).1 = eventView s := by
  unfold requestResult
  split
  · rfl
  · have hids : ∀ n, (markRead n s.tly.results).map Result.eventId = s.tly.results.map Result.eventId := fun n => by
      rw [markRead, List.map_map]
      exact List.map_congr_left fun x _ => by dsimp only [Function.comp]; split <;> rfl
    simp only [eventView, hids]

@[simp] theorem requestPlanLoad_view (v dep energy : Nat) (a b : Bool) : eventView (requestPlanLoad v dep energy a b s).1 = eventView s := by
  unfold requestPlanLoad
  dsimp only
  split
  · rfl
  · split
    · rfl
    · split
      · rfl
      · simp

@[simp] theorem requestPlanDelete_view (v : Nat) : eventView (requestPlanDelete v s).1 = eventView s := by
  unfold requestPlanDelete
  split <;> rfl

@[simp] theorem requestPlanOne_view (v : Nat) : eventView (requestPlanOne v s).1 = eventView s := by
  unfold requestPlanOne
  split <;> rfl

@[simp] theorem requestLockout_view (v : Nat) : eventView (requestLockout v s).1 = eventView s := by
  unfold requestLockout
  split
  · rfl
  · dsimp only
    rw [runPass_view, mapPlans_view]

@[simp] theorem requestHold_view (v : Nat) : eventView (requestHold v s).1 = eventView s := by
  unfold requestHold
  split
  · rfl
  · dsimp only
    split <;> rfl

@[simp] theorem requestHoldClear_view (v : Nat) : eventView (requestHoldClear v s).1 = eventView s := by
  unfold requestHoldClear
  split <;> rfl

@[simp] theorem requestParameterSet_view (id v : Nat) : eventView (requestParameterSet id v s).1 = eventView s := by
  unfold requestParameterSet
  split
  · rfl
  · unfold writeParameter
    dsimp only
    split <;> rfl

@[simp] theorem requestParameterQuery_view (id : Nat) : eventView (requestParameterQuery id s).1 = eventView s := by
  unfold requestParameterQuery
  split
  · rfl
  · split <;> rfl

@[simp] theorem requestRotationSet_view (y : Bool) (l : List Nat) : eventView (requestRotationSet y l s).1 = eventView s := by
  unfold requestRotationSet
  split
  · rfl
  · split
    · rfl
    · split <;> rfl

/-- A request naming a dock keeps the view when its act does (R23). -/
theorem onDock_view {a : Nat} {act : Dock → State → State × Answer} (h : ∀ d, eventView (act d s).1 = eventView s) :
    eventView (onDock a act s).1 = eventView s := by
  unfold onDock
  split
  · rfl
  · exact h _

@[simp] theorem requestDockManual_view (a : Nat) (v : Int) : eventView (requestDockManual a v s).1 = eventView s := by
  refine onDock_view s fun d => ?_
  dsimp only
  split <;> rfl

@[simp] theorem requestDockEnable_view (a : Nat) : eventView (requestDockEnable a s).1 = eventView s := by
  refine onDock_view s fun d => ?_
  split <;> rfl

@[simp] theorem requestDockDisable_view (a : Nat) : eventView (requestDockDisable a s).1 = eventView s := by
  refine onDock_view s fun d => ?_
  dsimp only
  split
  · rfl
  · exact disableDock_view s d

@[simp] theorem requestDockClear_view (a : Nat) : eventView (requestDockClear a s).1 = eventView s := by
  refine onDock_view s fun d => ?_
  dsimp only
  split
  · split
    · exact leaveFaulted_view s _ d
    · rfl
    · rfl
  · rfl

@[simp] theorem requestEchoTest_view (a n : Nat) : eventView (requestEchoTest a n s).1 = eventView s := by
  refine onDock_view s fun d => ?_
  split
  · rfl
  · split
    · rfl
    · split
      · rfl
      · split
        · rfl
        · split <;> rfl

@[simp] theorem requestDockQuery_view (a : Nat) : eventView (requestDockQuery a s).1 = eventView s := by
  unfold requestDockQuery
  split
  · rfl
  · exact onDock_view s fun _ => rfl

end

/-! ### Requests, frames, commands, steps -/

/-- The owner of a request keeps a sound queue sound; a call alone brings a record into it. -/
theorem runRequest_keeps (l : Link) (q : Request) : KeepsOrCalls s (runRequest l q s).1 := by
  have hview : eventView (runRequest l q s).1 = eventView s → KeepsOrCalls s (runRequest l q s).1 := fun h => (Keeps.of_view h).orCalls
  cases q with
  | timeSet t =>
    refine Keeps.orCalls ?_
    show Keeps s (requestTimeSet t s).1
    unfold requestTimeSet
    split
    · exact .refl s
    · split
      · exact .refl s
      · exact (Keeps.of_view (drawn_view s)).trans (setClock_keeps _ _)
  | timeTrim d =>
    refine Keeps.orCalls ?_
    show Keeps s (requestTimeTrim d s).1
    unfold requestTimeTrim
    split
    · exact .refl s
    · split
      · exact .refl s
      · exact (Keeps.of_view (drawn_view s)).trans (trimClock_keeps _ _)
  | dispatchCall id start stop target m => exact requestCall_keeps id start stop target m
  | dispatchRevise id target stop => exact ((reviseNamed_keeps id target stop).trans takeAfterRequest_keeps).orCalls
  | dispatchCancel id => exact ((cancelNamed_keeps id).trans takeAfterRequest_keeps).orCalls
  | planQuery mode v =>
    refine hview ?_
    unfold runRequest
    dsimp only
    split
    · simp
    · split <;> rfl
  | holdSet v level =>
    refine hview ?_
    unfold runRequest
    dsimp only
    split
    · simp
    · split
      · simp
      · rfl
  | queueQuery part first =>
    refine hview ?_
    unfold runRequest
    dsimp only
    split
    · rfl
    · split <;> rfl
  | groupSet a g => exact hview (onDock_view s fun _ => rfl)
  | dockAuto a => exact hview (onDock_view s fun _ => rfl)
  | netRestart => exact hview (restartNet_view s _)
  | linkQuery => exact hview (mapPort_view s l _)
  | headroomLoad => exact hview (requestHeadroomLoad_view s _ _ _)
  | headroomOverride => exact hview (requestHeadroomOverride_view s _ _)
  | offerQuery => exact hview (requestOffer_view s _ _)
  | resultQuery => exact hview (requestResult_view s _ _)
  | planLoad => exact hview (requestPlanLoad_view s _ _ _ _ _)
  | planDelete => exact hview (requestPlanDelete_view s _)
  | holdClear => exact hview (requestHoldClear_view s _)
  | parameterSet => exact hview (requestParameterSet_view s _ _)
  | parameterQuery => exact hview (requestParameterQuery_view s _)
  | rotationSet => exact hview (requestRotationSet_view s _ _)
  | dockManual => exact hview (requestDockManual_view s _ _)
  | dockEnable => exact hview (requestDockEnable_view s _)
  | dockDisable => exact hview (requestDockDisable_view s _)
  | dockClear => exact hview (requestDockClear_view s _)
  | echoTest => exact hview (requestEchoTest_view s _ _)
  | dockQuery => exact hview (requestDockQuery_view s _)
  | _ => exact hview rfl

theorem takeFirst_keeps (l : Link) : KeepsOrCalls s (takeFirst l s) := by
  unfold takeFirst
  split
  · split
    · exact (Keeps.refl s).orCalls
    · next h _ _ =>
      refine KeepsOrCalls.trans ?_ (.of_view (mapPort_view _ l _))
      unfold answerRequest
      split
      · exact (Keeps.refl s).orCalls
      · exact runRequest_keeps l _
  · exact (Keeps.refl s).orCalls

theorem takeGoodFrame_keeps (l : Link) (f : LinkFrame) : KeepsOrCalls s (takeGoodFrame l f s) := by
  unfold takeGoodFrame
  split
  · exact (KeepsOrCalls.after_view (mapPort_view s l _) (takeFirst_keeps l)).trans (.of_view (mapPort_view _ l _))
  · exact (Keeps.of_view (mapPort_view s l _)).orCalls

theorem frameSent_keeps (l : Link) : KeepsOrCalls s (frameSent l s) := by
  unfold frameSent
  split
  · exact (Keeps.refl s).orCalls
  · exact (KeepsOrCalls.after_view (mapPort_view s l _) (takeFirst_keeps l)).trans (.of_view (mapPort_view _ l _))
  · exact (Keeps.of_view (mapPort_view s l _)).orCalls

theorem answered_keeps (l : Link) (f : LinkFrame) {owner : State → State × Answer} (h : ∀ u, KeepsOrCalls u (owner u).1) :
    KeepsOrCalls s (answered l f owner s) :=
  (KeepsOrCalls.after_view (mapPort_view s l _) (h _)).trans (.of_view (mapPort_view _ l _))

/-- A command that is no request and no frame on a link keeps a sound queue sound and brings no record into it. -/
theorem exec_noRequest_keeps {c : Instr} (hq : requestOf c = none) : ∃ t, exec c s = .next t ∧ KeepsOrCalls s t := by
  have hview : ∀ {t : State}, eventView t = eventView s → KeepsOrCalls s t := fun h => (Keeps.of_view h).orCalls
  cases c with
  | deviceReset b =>
    refine ⟨_, rfl, fun _ => ⟨?_, nofun⟩⟩
    exact ⟨Nat.zero_le _, List.Pairwise.nil, nofun, by simp [State.afterReset, Tly.reset, activeRecord], nofun, Nat.zero_le _, List.nodup_nil⟩
  | status => exact ⟨_, rfl, hview (receiveFrame_view s _)⟩
  | echoReply => exact ⟨_, rfl, hview (receiveFrame_view s _)⟩
  | foreignFrame => exact ⟨_, rfl, hview (by split <;> simp)⟩
  | frameInError => exact ⟨_, rfl, hview (by split <;> simp)⟩
  | transmitStart => exact ⟨_, rfl, hview rfl⟩
  | arbitrationLost => exact ⟨_, rfl, hview rfl⟩
  | transmitAttemptEnd => exact ⟨_, rfl, hview (endAttempt_view s _)⟩
  | recoveryTimerExpiry => exact ⟨_, rfl, hview (expireRecovery_view s)⟩
  | echoWaitExpiry => exact ⟨_, rfl, hview (expireEchoWait_view s)⟩
  | reportTimeout => exact ⟨_, rfl, hview (by split <;> simp)⟩
  | silentGraceExpiry => exact ⟨_, rfl, hview (by split <;> simp)⟩
  | allocationTimerExpiry => exact ⟨_, rfl, hview (expireAllocation_view s)⟩
  | tripAssertion => exact ⟨_, rfl, hview (assertTrip_view s)⟩
  | tripRelease => exact ⟨_, rfl, hview (releaseTrip_view s)⟩
  | holdoffExpiry => exact ⟨_, rfl, hview (expireHoldoff_view s)⟩
  | uptimeSecond => exact ⟨_, rfl, hview (takeUptimeSecond_view s)⟩
  | depotSecond => exact ⟨_, rfl, takeDepotSecond_keeps.orCalls⟩
  | dayRollover => exact ⟨_, rfl, hview (by split <;> simp)⟩
  | planDue => exact ⟨_, rfl, hview (checkDueOf_view s _)⟩
  | eventStart => exact ⟨_, rfl, startIfReached_keeps.orCalls⟩
  | eventEnd => exact ⟨_, rfl, endIfReached_keeps.orCalls⟩
  | settlementBoundary => exact ⟨_, rfl, hview (settlementIfReached_view s)⟩
  | halfHourBoundary => exact ⟨_, rfl, hview (by split <;> simp)⟩
  | overrideExpiry => exact ⟨_, rfl, hview (overrideIfReached_view s)⟩
  | intervalAExpiry => exact ⟨_, rfl, hview (expireIntervalA_view s)⟩
  | intervalBExpiry => exact ⟨_, rfl, hview (expireIntervalB_view s)⟩
  | meterExportPulse => exact ⟨_, rfl, hview ((mapTally_view _ _).trans rfl)⟩
  | meterImportPulse => exact ⟨_, rfl, hview ((mapTally_view _ _).trans rfl)⟩
  | goodFrame => exact ⟨_, rfl, takeGoodFrame_keeps _ _⟩
  | badFrame => exact ⟨_, rfl, hview (mapPort_view s _ _)⟩
  | linkGapTimeout => exact ⟨_, rfl, hview (mapPort_view s _ _)⟩
  | quietTimerExpiry => exact ⟨_, rfl, hview (mapPort_view s _ _)⟩
  | linkFrameSent => exact ⟨_, rfl, frameSent_keeps _⟩
  | unknownKindRequest =>
    refine ⟨_, rfl, ?_⟩
    split
    · exact answered_keeps _ _ fun u => (Keeps.refl u).orCalls
    · exact (Keeps.refl s).orCalls
  | syncByteBeginsFrame => exact ⟨_, rfl, hview (mapPort_view s _ _)⟩
  | _ => cases hq

theorem exec_keeps (c : Instr) (s : State) : ∃ t, exec c s = .next t ∧ KeepsOrCalls s t := by
  cases hq : requestOf c with
  | some lq => exact ⟨_, exec_request hq s, answered_keeps _ _ fun _ => runRequest_keeps _ _⟩
  | none => exact exec_noRequest_keeps hq

theorem step_keeps {t : State} (h : step s = .next t) : KeepsOrCalls s t := by
  unfold step at h
  split at h
  · next c rest _ =>
    obtain ⟨u, hu, hk⟩ := exec_keeps c { s with pending := rest }
    cases h.symm.trans hu
    exact hk.after_view (t := { s with pending := rest }) rfl
  · cases h
    exact takePeriod_keeps.orCalls

/-- Settles O7: a record of the queue after a step has come from the one of its id, since ids are unique, or is called anew. -/
theorem stepKeepsTheEventQueueSound : Obligations.StepKeepsTheEventQueueSound := by
  intro s t hok hstep
  obtain ⟨ht, hl⟩ := step_keeps hstep hok
  refine ⟨ht, fun r hr q hq hid => ?_⟩
  rcases hl q hq with ⟨p, hp, he⟩ | hnew
  · obtain rfl : p = r := record_unique hok hr hp (he.id.symm.trans hid)
    exact ⟨he.committed, he.stop, he.start, he.target, he.committedInitial, he.active⟩
  · exact absurd (List.mem_map.mpr ⟨r, hr, hid.symm⟩) hnew

end Sys2Proof.Dispatch
end

section
/-! The start of an event (R65, R66). -/

namespace Sys2Proof.Dispatch

open Sys2Proof Sys2Proof.Machine Sys2Proof.RoutePlans

variable (s : State)

/-- The state in which the pass of a start is taken: the record ACTIVE, tally open, rotation started, echo test ended (R66). -/
def beforeStartPass (r : EventRecord) (rest : List EventRecord) (s : State) : State :=
  { s with
    evq := r.started s.dck.depotTime :: rest
    tly.tally := some (Tally.opened (r.started s.dck.depotTime) s.dck.depotTime)
    rot := s.rot.start s.dck.uptime
    dnc := s.dnc.abortEcho }

theorem startFirst_eq {r : EventRecord} {rest : List EventRecord} (h : s.evq = r :: rest) :
    startFirst s = raiseBoth (eventNotice .started (r.started s.dck.depotTime)) (runPass (beforeStartPass r rest s)) := by
  simp only [startFirst, h, beforeStartPass]

theorem startIfReached_cons {r : EventRecord} {rest : List EventRecord} (h : s.evq = r :: rest) :
    startIfReached s = if r.state = .pending ∧ r.start ≤ s.dck.depotTime then startFirst s else s := by
  simp [startIfReached, startReached, h]

theorem startIfReached_nil (h : s.evq = []) : startIfReached s = s := by
  simp [startIfReached, startReached, h]

/-- While no group rests a pass does not yield the rest (R95). -/
theorem not_yielded_of_no_rest (h : s.rot.restingGroup = none) : (passOutcome s).yielded = false := by
  unfold passOutcome
  split
  · cases ha : activeRecord s.evq <;> simp [normalOutcome, passYields, h, ha]
  · rfl

/-- The queued ECHO is none of what a pass changes. -/
theorem runPass_queuedEcho : (runPass s).dnc.queuedEcho = s.dnc.queuedEcho := by
  have h := congrArg Dnc.queuedEcho (runPass_dnc s s.dnc.phase [] none)
  simpa only [withPassFields] using h

section
variable {s} {r : EventRecord} {rest : List EventRecord}

/-- The tally after the pass of a start: just opened, with the shortfall of that pass (R142, R144). -/
theorem started_tly : (runPass (beforeStartPass r rest s)).tly = { s.tly with
    tally := some { Tally.opened r s.dck.depotTime with peakShortfall := (runPass (beforeStartPass r rest s)).alc.lastShortfall } } := by
  have ha : activeRecord (beforeStartPass r rest s).evq = some (r.started s.dck.depotTime) := by
    simp [beforeStartPass, activeRecord, EventRecord.started]
  rw [runPass_tly, runPass_alc, ha]
  simp [handShortfall, PassOutcome.alc, beforeStartPass, Tally.opened, EventRecord.started, Interval.opened]

/-- With a list the rotation is in WORK at the head of its list after a start, and the pass of the start yields no rest (R108). -/
theorem started_rot (h : s.rot.list ≠ []) : (runPass (beforeStartPass r rest s)).rot = { s.rot with
    yieldCount := 0, cursor := 0, state := .work, bTimer := none
    aTimer := some ((s.dck.uptime + s.rot.intervalA) % 4294967296) } := by
  have hrot : (beforeStartPass r rest s).rot = { s.rot with
      yieldCount := 0, cursor := 0, state := .work, aTimer := some (expiryAfter s.dck.uptime s.rot.intervalA), bTimer := none } := if_neg h
  rw [runPass_rot, not_yielded_of_no_rest _ (by rw [hrot]; rfl), hrot]
  rfl

/-- Without a list a start counts the yields from 0 and leaves the rest of the rotation (R108). -/
theorem started_rot_nil (h : s.rot.list = []) : (runPass (beforeStartPass r rest s)).rot.state = s.rot.state ∧
    (runPass (beforeStartPass r rest s)).rot.aTimer = s.rot.aTimer ∧ (runPass (beforeStartPass r rest s)).rot.bTimer = s.rot.bTimer := by
  have hrot : (beforeStartPass r rest s).rot = { s.rot with yieldCount := 0 } := if_pos h
  rw [runPass_rot_params, hrot]
  exact ⟨rfl, rfl, rfl⟩

end

/-- Settles O39: the first record starts when it is PENDING and its start is reached; nothing is taken otherwise. -/
theorem eventStartOpensTheEvent : Obligations.EventStartOpensTheEvent := by
  intro s
  have hexec : exec .eventStart s = .next (startIfReached s) := rfl
  split
  case h_2 hq => rw [hexec, startIfReached_nil s hq]
  case h_1 r rest hq =>
  rw [hexec, startIfReached_cons s hq]
  split
  case isFalse => rfl
  case isTrue =>
  rw [startFirst_eq s hq]
  refine ⟨_, rfl, ?_, ?_, fun hl => ?_, fun hl => ?_, ?_, fun he => ?_, fun he => ?_, ?_, ?_, ?_, fun d => ?_⟩
  · rw [raiseBoth_evq, runPass_evq]
    rfl
  · rw [raiseBoth_tly, raiseBoth_alc, started_tly]
    rfl
  · rw [raiseBoth_rot, started_rot hl]
  · rw [raiseBoth_rot]
    exact started_rot_nil hl
  · rw [raiseBoth_alc, runPass_previousPass]
    rfl
  · have hd : (beforeStartPass r rest s).dnc = { s.dnc with
        echo := { s.dnc.echo with state := .aborted, wait := none }, queuedEcho := none
        sending := s.dnc.sending.map Transmission.withdrawEcho } := if_pos he
    rw [raiseBoth_dnc, runPass_echo, runPass_queuedEcho, hd]
    exact ⟨rfl, rfl⟩
  · have hd : (beforeStartPass r rest s).dnc = s.dnc := if_neg he
    rw [raiseBoth_dnc, runPass_echo, runPass_queuedEcho, hd]
    exact ⟨rfl, rfl⟩
  · rw [raiseBoth_grid, runPass_grid]
    rfl
  · rw [raiseBoth_slu, runPass_slu]
    rfl
  · rw [raiseBoth_dck, runPass_dck]
    rfl
  · rw [raiseBoth_dock]
    exact ⟨(runPass_dock_kept _ d).1, (runPass_dock_kept _ d).2.1⟩

end Sys2Proof.Dispatch
end

section
/-! A request row on the Grid Link in the words of the statements (log 9): what standing in the holding and answering leave as they are. -/

namespace Sys2Proof.Dispatch

open Sys2Proof Sys2Proof.Machine Sys2Proof.RoutePlans

variable (s : State)

@[simp] theorem asked_slu (c : Instr) : (s.asked c).slu = s.slu := by
  unfold State.asked State.holdingRequest; split <;> simp
@[simp] theorem asked_tly (c : Instr) : (s.asked c).tly = s.tly := by
  unfold State.asked State.holdingRequest; split <;> simp
@[simp] theorem asked_draws (c : Instr) : (s.asked c).draws = s.draws := by
  unfold State.asked State.holdingRequest; split <;> simp

section
variable (l : Link) (kind : Byte) (body : List Byte)

@[simp] theorem answering_evq : (s.answering l kind body).evq = s.evq := by simp [answering_eq]
@[simp] theorem answering_slu : (s.answering l kind body).slu = s.slu := by simp [answering_eq]
@[simp] theorem answering_dck : (s.answering l kind body).dck = s.dck := by simp [answering_eq]
@[simp] theorem answering_tly : (s.answering l kind body).tly = s.tly := by simp [answering_eq]
@[simp] theorem answering_rpt : (s.answering l kind body).rpt = s.rpt := by simp [answering_eq]
@[simp] theorem answering_alc : (s.answering l kind body).alc = s.alc := by simp [answering_eq]
@[simp] theorem answering_rot : (s.answering l kind body).rot = s.rot := by simp [answering_eq]
@[simp] theorem answering_dnc : (s.answering l kind body).dnc = s.dnc := by simp [answering_eq]
@[simp] theorem answering_draws : (s.answering l kind body).draws = s.draws := by simp [answering_eq]
@[simp] theorem answering_dock (d : Dock) : (s.answering l kind body).dock d = s.dock d := by simp [answering_eq]

end

/-- What a Grid Link answer leaves of the port is by the port alone. -/
theorem answering_grid_congr {s t : State} (h : s.grid = t.grid) (kind : Byte) (body : List Byte) :
    (s.answering .grid kind body).grid = (t.answering .grid kind body).grid := by
  rw [answering_eq, answering_eq, State.mapPort_grid_grid, State.mapPort_grid_grid, h]

/-- The transmitter's choice leaves the last answer. -/
theorem serve_lastAnswer (p : Port) : p.serve.lastAnswer = p.lastAnswer := by
  unfold Port.serve
  split
  · rfl
  · split
    · split <;> rfl
    · split <;> rfl

/-- The answer formed is the port's last answer (log 9). -/
theorem answering_lastAnswer (kind : Byte) (body : List Byte) :
    (s.answering .grid kind body).grid.lastAnswer = some { kind := kind, body := body } := by
  rw [answering_eq, State.mapPort_grid_grid]
  unfold Port.reply
  split
  · split
    · exact serve_lastAnswer _
    · rfl
  · rfl

end Sys2Proof.Dispatch
end

section
/-! The offer of a window (R61 to R63), and OFFER QUERY (R64). -/

namespace Sys2Proof.Dispatch

open Sys2Proof Sys2Proof.Machine Sys2Proof.RoutePlans

variable {s t : State}

/-! ### What the terms rest on -/

/-- The headroom term rests on the site limits and the clock. -/
theorem headroomTerm_congr (hslu : t.slu = s.slu) (hdck : t.dck = s.dck) (start stop : Nat) :
    headroomTerm t start stop = headroomTerm s start stop := by
  have hpiece : pieceHeadroom t = pieceHeadroom s := by
    funext x
    simp only [pieceHeadroom, hslu, hdck]
  simp only [headroomTerm, hpiece]

/-- The contributions rest on the Dock Table, the Route Plan Table and the clock. -/
theorem contributions_congr (hdock : ∀ d : Dock, t.dock d = s.dock d) (hrpt : t.rpt = s.rpt) (hdck : t.dck = s.dck) (start stop : Nat) :
    contributions t start stop = contributions s start stop := by
  have hcand : offerCandidate t = offerCandidate s := by
    funext d
    simp only [offerCandidate, offerPlan, hdock, hrpt]
  have hpart : contribution t start stop = contribution s start stop := by
    funext d v
    simp only [contribution, reserveFloor, livePlan, hdock, hrpt, hdck]
  simp only [contributions, hcand, hpart]

section
variable (s) (c : Instr) (start stop : Nat)

@[simp] theorem asked_headroomTerm : headroomTerm (s.asked c) start stop = headroomTerm s start stop :=
  headroomTerm_congr (by simp) (by simp) start stop

@[simp] theorem asked_contributions : contributions (s.asked c) start stop = contributions s start stop :=
  contributions_congr (by simp) (by simp) (by simp) start stop

@[simp] theorem asked_energyTerm : energyTerm (s.asked c) start stop = energyTerm s start stop := by
  simp only [energyTerm, asked_contributions]

end

/-! ### The headroom term (R62) -/

/-- The lowest of some values, each reached and none below it. -/
theorem foldl_min_spec {α : Type} (f : α → Nat) (l : List α) (m : Nat) :
    l.foldl (fun m a => min m (f a)) m ≤ m ∧ (∀ a ∈ l, l.foldl (fun m a => min m (f a)) m ≤ f a) ∧
      (l.foldl (fun m a => min m (f a)) m = m ∨ ∃ a ∈ l, l.foldl (fun m a => min m (f a)) m = f a) := by
  induction l generalizing m with
  | nil => simp
  | cons a l ih =>
    obtain ⟨hm, hl, hr⟩ := ih (min m (f a))
    simp only [List.foldl_cons]
    refine ⟨hm.trans (Nat.min_le_left _ _), fun b hb => ?_, ?_⟩
    · rcases List.mem_cons.mp hb with rfl | hb
      · exact hm.trans (Nat.min_le_right _ _)
      · exact hl b hb
    · rcases hr with hr | ⟨b, hb, hr⟩
      · rcases Nat.le_total m (f a) with h | h
        · exact .inl (hr.trans (Nat.min_eq_left h))
        · exact .inr ⟨a, by simp, hr.trans (Nat.min_eq_right h)⟩
      · exact .inr ⟨b, by simp [hb], hr⟩

/-- The pieces of a window begin at its start and at the half-hour boundaries inside it (R62). -/
theorem mem_pieceBeginnings {start stop x : Nat} (h : start < stop) :
    x ∈ pieceBeginnings start stop ↔ x = start ∨ ∃ j, x = j * 1800 ∧ start < j * 1800 ∧ j * 1800 < stop := by
  unfold pieceBeginnings
  rw [List.mem_cons, List.mem_map]
  refine or_congr_right ⟨fun ⟨i, hi, hx⟩ => ?_, fun ⟨j, hx, hlow, hhigh⟩ => ?_⟩
  · have hi := List.mem_range.mp hi
    exact ⟨start / 1800 + 1 + i, hx.symm, by omega, by omega⟩
  · exact ⟨j - (start / 1800 + 1), List.mem_range.mpr (by omega), by omega⟩

/-- The headroom term is the headroom of a piece, and of no piece is the headroom below it. -/
theorem headroomTerm_spec {start stop : Nat} (h : start < stop) :
    headroomTerm s start stop ≤ pieceHeadroom s start ∧
      (∀ i, start < i * 1800 → i * 1800 < stop → headroomTerm s start stop ≤ pieceHeadroom s (i * 1800)) ∧
      (headroomTerm s start stop = pieceHeadroom s start ∨
        ∃ j, start < j * 1800 ∧ j * 1800 < stop ∧ headroomTerm s start stop = pieceHeadroom s (j * 1800)) := by
  obtain ⟨hm, hl, hr⟩ := foldl_min_spec (pieceHeadroom s) (pieceBeginnings start stop) (pieceHeadroom s start)
  refine ⟨hm, fun i hlow hhigh => hl _ ((mem_pieceBeginnings h).mpr (.inr ⟨i, rfl, hlow, hhigh⟩)), ?_⟩
  rcases hr with hr | ⟨x, hx, hr⟩
  · exact .inl hr
  · rcases (mem_pieceBeginnings h).mp hx with rfl | ⟨j, rfl, hlow, hhigh⟩
    · exact .inl hr
    · exact .inr ⟨j, hlow, hhigh, hr⟩

/-- The headroom at a time of the window, in words (R119 to R122). -/
def headroomAhead (s : State) (x : Nat) : Nat :=
  if s.slu.tableValid = false then 0
  else match s.slu.limit.filter (fun o => decide (x < o.expiry)) with
    | some o => o.value
    | none => if s.slu.daily = false ∧ s.dck.depotTime / 86400 < x / 86400 then 0 else s.slu.table[x % 86400 / 1800]?.getD 0

theorem pieceHeadroom_eq (s : State) (x : Nat) : pieceHeadroom s x = headroomAhead s x := by
  unfold pieceHeadroom headroomAhead
  split
  · rfl
  · cases h : s.slu.limit with
    | none => rfl
    | some o =>
      by_cases hx : x < o.expiry
      · simp [Option.filter, hx]
      · simp only [Option.filter, hx, if_false, decide_false, Bool.false_eq_true]
        rfl

/-! ### The energy term (R61, R63) -/

/-- The offer candidates of R61 in the words of the statement: BOUND and under the Allocator, with an entry that lets it give energy. -/
def offers (s : State) (d : Dock) : Bool :=
  decide ((s.dock d).state = .bound) && decide ((s.dock d).steering = .allocator) &&
    (s.rpt.plans.any fun p => decide (some p.vehicle = (s.dock d).vehicle ∧ p.state ≠ .departed ∧ p.hold = .none ∧ p.pendingHold = false))

theorem offerPlan_isSome (hok : s.PlansOk) (v : Nat) : (offerPlan s v).isSome = true ↔
    ∃ p ∈ s.rpt.plans, p.vehicle = v ∧ p.state ≠ .departed ∧ p.hold = .none ∧ p.pendingHold = false := by
  rw [Option.isSome_iff_exists]
  constructor
  · rintro ⟨p, hp⟩
    obtain ⟨hfind, htest⟩ := Option.filter_eq_some_iff.mp hp
    obtain ⟨hmem, hv⟩ := mem_findPlan hfind
    exact ⟨p, hmem, hv, of_decide_eq_true htest⟩
  · rintro ⟨p, hmem, hv, htest⟩
    exact ⟨p, Option.filter_eq_some_iff.mpr ⟨findPlan_of_mem hok.ascending hmem hv, decide_eq_true htest⟩⟩

/-- A dock is an offer candidate with the vehicle it holds (R61). -/
theorem offerCandidate_eq (hok : s.PlansOk) (d : Dock) :
    offerCandidate s d = if offers s d then some ((s.dock d).vehicle.getD 0) else none := by
  have hfilter : offerCandidate s d = if (s.dock d).state = .bound ∧ (s.dock d).steering = .allocator then
      (s.dock d).vehicle.filter fun v => (offerPlan s v).isSome else none := rfl
  rw [hfilter, offers]
  by_cases hs : (s.dock d).state = .bound ∧ (s.dock d).steering = .allocator
  · rw [if_pos hs, hs.1, hs.2]
    generalize (s.dock d).vehicle = vehicle
    cases vehicle with
    | none => simp
    | some v =>
      have hplan : (offerPlan s v).isSome = s.rpt.plans.any fun p =>
          decide (some p.vehicle = some v ∧ p.state ≠ .departed ∧ p.hold = .none ∧ p.pendingHold = false) := by
        rw [Bool.eq_iff_iff, offerPlan_isSome hok]
        simp only [List.any_eq_true, decide_eq_true_eq, Option.some.injEq]
      simp only [Option.filter, hplan, decide_true, Bool.true_and, Option.getD_some]
  · have : ¬((decide ((s.dock d).state = .bound) && decide ((s.dock d).steering = .allocator)) = true) := by simpa using hs
    rw [if_neg hs, if_neg]
    simp only [Bool.and_eq_true] at this ⊢
    exact fun h => this h.1

/-- The contributions are those of the candidates, in address order. -/
theorem contributions_eq (hok : s.PlansOk) (start stop : Nat) : contributions s start stop = (Dock.all.filter (offers s)).map fun d =>
    min (s.dock d).ratedExport (((s.dock d).stored - floorOf s d ((s.dock d).vehicle.getD 0) stop) * 3600 / (stop - start)) := by
  have h : ∀ d, (offerCandidate s d).map (contribution s start stop d) = if offers s d then
      some (min (s.dock d).ratedExport (((s.dock d).stored - floorOf s d ((s.dock d).vehicle.getD 0) stop) * 3600 / (stop - start)))
      else none := fun d => by
    rw [offerCandidate_eq hok]
    split
    · simp only [Option.map_some, contribution, floorOf_eq]
    · rfl
  simp only [contributions, h]
  exact filterMap_ite (offers s) _ Dock.all

/-- OFFER QUERY in the words of the statement, with its checks in order (R64). -/
theorem requestOffer_eq (start stop : Nat) (s : State) : requestOffer start stop s =
    if s.dck.running = false then refuse .clockUnset s
    else if stop < start + 300 ∨ start + 14400 < stop ∨ s.dck.depotTime + 172800 < start ∨ 4000000000 < stop then refuse .badWindow s
    else if stop ≤ s.dck.depotTime then refuse .past s
    else
      let a := max start s.dck.depotTime
      (s, .done (le16 (headroomTerm s a stop) ++ le16 (energyTerm s a stop) ++ encodeNat 1 (contributions s a stop).length ++
        le16 (min (headroomTerm s a stop) (energyTerm s a stop)))) := by
  simp only [requestOffer, badWindow_iff, windowOffer, le16_eq]

/-- Settles O54: the checks, then the answer, and the terms by the words of R62 and R63. -/
theorem offerQueryAnswersTheTermsOfTheOffer : Obligations.OfferQueryAnswersTheTermsOfTheOffer := by
  intro start stop i s now a headroomAt
  have hrow := exec_row (c := .offerQuery start stop) (l := .grid) (q := .offerQuery start stop) s rfl
  simp only [runRequest, requestOffer_eq, asked_dck, asked_headroomTerm, asked_energyTerm, asked_contributions] at hrow
  split
  · next h1 => rw [hrow, if_pos h1]; rfl
  next h1 =>
  split
  · next h2 => rw [hrow, if_neg h1, if_pos h2]; rfl
  next h2 =>
  split
  · next h3 => rw [hrow, if_neg h1, if_neg h2, if_pos h3]; rfl
  next h3 =>
  intro candidates hok
  have hlt : a < stop := by
    have hs : now < stop := Nat.not_le.mp h3
    simp only [a]
    omega
  have hcand := contributions_eq hok a stop
  have hlen : (contributions s a stop).length = candidates.length := by
    rw [hcand, List.length_map]
    rfl
  obtain ⟨hlow, hall, hone⟩ := headroomTerm_spec (s := s) hlt
  simp only [pieceHeadroom_eq] at hlow hall hone
  refine ⟨?_, hlow, hall i, hone, ?_⟩
  · rw [hrow, if_neg h1, if_neg h2, if_neg h3, ← hlen]
    rfl
  · rw [energyTerm, hcand]
    rfl

end Sys2Proof.Dispatch
end

section
/-! DISPATCH CALL (R55 to R60): the checks, the offer, and the record inserted or started. -/

namespace Sys2Proof.Dispatch

open Sys2Proof Sys2Proof.Machine Sys2Proof.RoutePlans

variable {s : State}

/-! ### The decision (R58) -/

/-- The offer of a call in the words of the statements (R58, R63). -/
theorem callOffer_eq (s : State) (start stop target : Nat) : callOffer s start stop target =
    min target (min (headroomTerm s (max start s.dck.depotTime) stop) (energyTerm s (max start s.dck.depotTime) stop)) := rfl

/-- With an offer at most the target a call is refused SHORT just when the offer, or the target, is below 10, or the offer below both the target and
what the gateway accepts (R58). -/
theorem callDecision_eq {offer target minAccept : Nat} (h : offer ≤ target) : callDecision offer target minAccept =
    if offer < 10 ∨ target < 10 ∨ (offer < target ∧ offer < minAccept) then none
    else some (if target ≤ offer then target else offer, decide (offer < target)) := by
  unfold callDecision
  by_cases ht : target ≤ offer
  · have he : offer = target := by omega
    by_cases h10 : 10 ≤ target
    · rw [if_pos ⟨h10, ht⟩, if_neg (by omega), if_pos ht]
      simp [he]
    · rw [if_neg (by omega), if_neg (by omega), if_pos (by omega)]
  · by_cases h10 : 10 ≤ offer ∧ minAccept ≤ offer
    · rw [if_neg (by omega), if_pos (by omega), if_neg (by omega), if_neg ht]
      simp [Nat.not_le.mp ht]
    · rw [if_neg (by omega), if_neg (by omega), if_pos (by omega)]

/-- The state once a record has been called into the queue and announced (R59). -/
def called (r : EventRecord) (s : State) : State := raiseBoth (eventNotice .called r) (s.mapEvq (insertEvent r))

theorem called_eq (r : EventRecord) (s : State) : called r s = { s with
    evq := insertEvent r s.evq
    grid := s.grid.raise (.event .called r none)
    fleet := s.fleet.raise (.event .called r none) } := rfl

/-- A call that its checks refuse. -/
theorem requestCall_refused {id start stop target minAccept : Nat} {reason : Reason} (h : callRefusal s id start stop = some reason) :
    requestCall id start stop target minAccept s = refuse reason s := by
  simp only [requestCall, h]

/-- A call that is refused SHORT. -/
theorem requestCall_short {id start stop target minAccept : Nat} (h : callRefusal s id start stop = none)
    (hd : callDecision (callOffer s start stop target) target minAccept = none) :
    requestCall id start stop target minAccept s = (s, .refused .short (encodeNat 2 (callOffer s start stop target))) := by
  simp only [requestCall, h, hd]

/-- A call that is accepted: inserted, announced, and when late started at once (R59, R60). -/
theorem requestCall_accepted {id start stop target minAccept committed : Nat} {reduced : Bool} (h : callRefusal s id start stop = none)
    (hd : callDecision (callOffer s start stop target) target minAccept = some (committed, reduced)) :
    requestCall id start stop target minAccept s =
      (if start ≤ s.dck.depotTime then startFirst (called (calledRecord id start stop target committed) s)
        else called (calledRecord id start stop target committed) s,
        .done (encodeFlag reduced ++ encodeNat 2 committed ++ encodeNat 2 (callOffer s start stop target) ++
          encodeFlag (decide (start ≤ s.dck.depotTime)))) := by
  simp only [requestCall, h, hd, called, decide_eq_true_eq]

theorem startFirst_length (s : State) : (startFirst s).evq.length = s.evq.length := by
  cases h : s.evq with
  | nil => simp [startFirst, h]
  | cons r rest => simp [startFirst_eq s h, beforeStartPass]

theorem called_length (r : EventRecord) (s : State) : (called r s).evq.length = s.evq.length + 1 := by
  simp [called, insertEvent, (insertBy_perm _ r s.evq).length_eq]

/-! ### Request rows -/

section
variable (id start stop target minAccept : Nat) (s : State)

/-- The checks on a call and its offer see nothing of the ports. -/
theorem asked_callRefusal (c : Instr) : callRefusal (s.asked c) id start stop = callRefusal s id start stop := by
  simp only [callRefusal_eq, asked_dck, asked_evq, asked_tly]

theorem asked_callOffer (c : Instr) : callOffer (s.asked c) start stop target = callOffer s start stop target := by
  simp only [callOffer_eq, asked_dck, asked_headroomTerm, asked_energyTerm]

/-- DISPATCH CALL as a row. -/
theorem exec_dispatchCall : let k := s.asked (.dispatchCall id start stop target minAccept)
    exec (.dispatchCall id start stop target minAccept) s = .next ((requestCall id start stop target minAccept k).1.answering .grid 0x95
      (requestCall id start stop target minAccept k).2.body) :=
  exec_row (c := .dispatchCall id start stop target minAccept) (l := .grid) (q := .dispatchCall id start stop target minAccept) s rfl

end

/-- Settles O50: each check in its place, the decision by the offer, and the record that an accepted call adds. -/
theorem dispatchCallIsCheckedInOrder : Obligations.DispatchCallIsCheckedInOrder := by
  intro id start stop target minAccept s now active k offer call
  have hcall : call = .next ((requestCall id start stop target minAccept k).1.answering .grid 0x95
      (requestCall id start stop target minAccept k).2.body) := exec_dispatchCall id start stop target minAccept s
  have hchecks := (asked_callRefusal id start stop s (.dispatchCall id start stop target minAccept)).trans (callRefusal_eq s id start stop)
  have hoffer : callOffer k start stop target = offer := asked_callOffer start stop target s _
  have refused : ∀ {reason : Reason}, callRefusal k id start stop = some reason → call = .next (k.answering .grid 0x95 [2, reason.code]) :=
    fun h => by rw [hcall, requestCall_refused h]; rfl
  split
  · next h1 => exact refused (hchecks.trans (if_pos h1))
  next h1 =>
  replace hchecks := hchecks.trans (if_neg h1)
  split
  · next h2 => exact refused (hchecks.trans (if_pos h2))
  next h2 =>
  replace hchecks := hchecks.trans (if_neg h2)
  split
  · next h3 => exact refused (hchecks.trans (if_pos h3))
  next h3 =>
  replace hchecks := hchecks.trans (if_neg h3)
  split
  · next h4 => exact refused (hchecks.trans (if_pos h4))
  next h4 =>
  replace hchecks := hchecks.trans (if_neg h4)
  split
  · next h5 => exact refused (hchecks.trans (if_pos h5))
  next h5 =>
  replace hchecks := hchecks.trans (if_neg h5)
  split
  · next h6 => exact refused (hchecks.trans (if_pos h6))
  next h6 =>
  replace hchecks := hchecks.trans (if_neg h6)
  have hle : offer ≤ target := Nat.min_le_left target _
  have hdecision := (congrArg (callDecision · target minAccept) hoffer).trans (callDecision_eq hle)
  split
  · next h7 =>
    rw [hcall, requestCall_short hchecks (hdecision.trans (if_pos h7)), hoffer]
    rfl
  · next h7 =>
    refine ⟨_, hcall, ?_⟩
    rw [requestCall_accepted hchecks (hdecision.trans (if_neg h7))]
    dsimp only
    rw [answering_evq]
    split
    · rw [startFirst_length, called_length, asked_evq]
    · rw [called_length, asked_evq]

/-! ### An accepted call -/

/-- In a queue in start order a record of another start stands between those that start before and those that start after it (R52, R59). -/
theorem insertEvent_eq {r : EventRecord} {l : List EventRecord} (hl : l.Pairwise fun a b => a.start < b.start ∧ a.stop ≤ b.start)
    (hne : ∀ q ∈ l, q.start ≠ r.start) :
    insertEvent r l = (l.filter fun q => decide (q.start < r.start)) ++ r :: l.filter fun q => decide (r.start < q.start) := by
  induction l with
  | nil => rfl
  | cons a l ih =>
    obtain ⟨ha, hl'⟩ := List.pairwise_cons.mp hl
    have ih := ih hl' fun q hq => hne q (List.mem_cons_of_mem _ hq)
    rcases Nat.lt_or_gt_of_ne (hne a List.mem_cons_self) with hlt | hgt
    · simpa [insertEvent, insertBy, hlt, hlt.not_gt, hlt.not_ge] using ih
    · have hafter : ∀ q ∈ l, r.start < q.start := fun q hq => hgt.trans (ha q hq).1
      have hnone : (l.filter fun q => decide (q.start < r.start)) = [] := by
        simpa [List.filter_eq_nil_iff] using fun q hq => (hafter q hq).le
      have hself : (l.filter fun q => decide (r.start < q.start)) = l := by simpa [List.filter_eq_self] using hafter
      simp [insertEvent, insertBy, hgt, hgt.le, hgt.not_gt, hnone, hself]

/-- A record that starts before every other is the first. -/
theorem insertEvent_first {r : EventRecord} {l : List EventRecord} (h : ∀ q ∈ l, r.start ≤ q.start) : insertEvent r l = r :: l := by
  cases l with
  | nil => rfl
  | cons a l => simp [insertEvent, insertBy, h a]

/-- Settles O51: the checks passed, the record stands in its place; a late one is the first, and starts. -/
theorem acceptedCallIsInsertedOrStarted : Obligations.AcceptedCallIsInsertedOrStarted := by
  intro id start stop target minAccept s now offer committed r k hok hrun hid hfresh hw1 hw2 hw3 hw4 hpast hapart hroom ht10 ho10 hmin
  have hcall := exec_dispatchCall id start stop target minAccept s
  have hoffer : callOffer k start stop target = offer := asked_callOffer start stop target s _
  have hle : offer ≤ target := Nat.min_le_left target _
  have hwindow : ∀ x ∈ s.evq, x.start < x.stop := fun x hx => by
    have := (hok.records x hx).window
    omega
  have hover : ¬∃ x ∈ s.evq, start < x.stop ∧ x.start < stop := by
    rintro ⟨x, hx, h1, h2⟩
    rcases hapart x hx with h | h <;> omega
  have hahead : ¬∃ x ∈ s.evq, x.state = .active ∧ start < x.start := by
    rintro ⟨x, hx, ha, h1⟩
    have := hwindow x hx
    rcases hapart x hx with h | h
    · rw [h.2] at ha
      cases ha
    · omega
  have accepted : (start ≤ now → holdsActive s.evq = false) → requestCall id start stop target minAccept k =
      (if start ≤ now then startFirst (called r k) else called r k,
        .done (encodeFlag (decide (offer < target)) ++ encodeNat 2 committed ++ encodeNat 2 offer ++ encodeFlag (decide (start ≤ now)))) :=
    fun hidle => by
      have hchecks : callRefusal k id start stop = none := by
        refine (asked_callRefusal id start stop s _).trans ((callRefusal_eq s id start stop).trans ?_)
        have hids : ¬(id = 0 ∨ id ∈ s.evq.map EventRecord.id ∨ id ∈ s.tly.results.map Result.eventId) := by
          simpa only [not_or] using And.intro hid (by simpa [State.eventIds] using hfresh)
        have hlate : ¬(start ≤ s.dck.depotTime ∧ holdsActive s.evq = true) := fun h => by simp [hidle h.1] at h
        rw [if_neg (by simp [hrun]), if_neg hids, if_neg (by omega), if_neg (by omega),
          if_neg (by simp only [not_or]; exact ⟨hover, hlate, hahead⟩), if_neg (by omega)]
      have hdecision : callDecision (callOffer k start stop target) target minAccept = some (committed, decide (offer < target)) := by
        rw [hoffer, callDecision_eq hle, if_neg (by omega)]
      rw [requestCall_accepted hchecks hdecision, hoffer, asked_dck]
      rfl
  refine ⟨fun hnow => ?_, fun hlate hidle hahead' => ?_⟩
  · have hne : ∀ x ∈ s.evq, x.start ≠ start := fun x hx => by
      have := hwindow x hx
      rcases hapart x hx with h | h <;> omega
    rw [hcall, accepted fun h => absurd h hnow.not_ge, if_neg hnow.not_ge, called_eq, asked_evq, insertEvent_eq hok.ordered hne,
      decide_eq_false hnow.not_ge]
    rfl
  · have hevq : (called r k).evq = r :: s.evq := by
      rw [called_eq, asked_evq]
      exact insertEvent_first fun x hx => hlate.trans (hahead' x hx).le
    have hdck : (called r k).dck = s.dck := asked_dck s _
    have hstart := startFirst_eq _ hevq
    have htly := started_tly (s := called r k) (r := r) (rest := s.evq)
    refine ⟨_, hcall, ?_⟩
    rw [accepted fun _ => by rw [holdsActive_eq hok, hidle]; rfl, if_pos hlate, hstart, decide_eq_true hlate]
    dsimp only
    refine ⟨?_, ?_, ?_, ?_, ?_, ?_⟩
    · rw [answering_evq, raiseBoth_evq, runPass_evq, beforeStartPass, hdck]
      rfl
    · rw [answering_tly, raiseBoth_tly, htly, hdck]
      exact ⟨_, rfl, rfl, rfl⟩
    · rw [answering_alc, raiseBoth_alc, runPass_previousPass]
      exact congrArg Dck.uptime hdck
    · rw [answering_slu, raiseBoth_slu, runPass_slu]
      exact asked_slu s _
    · rw [answering_dck, raiseBoth_dck, runPass_dck]
      exact hdck
    · refine answering_grid_congr ?_ _ _
      rw [raiseBoth_grid, runPass_grid, hdck]
      rfl

end Sys2Proof.Dispatch
end

section
/-! DISPATCH REVISE and DISPATCH CANCEL (R69 to R72): the record named, and what is reached and taken after them (log 35). -/

namespace Sys2Proof.Dispatch

open Sys2Proof Sys2Proof.Machine Sys2Proof.RoutePlans

variable {s : State}

/-! ### What is taken after the request -/

theorem headNamed_eq (first : Option Nat) (s : State) : (first.any fun i => s.evq.head?.any fun r => r.id == i) = headNamed first s := by
  unfold headNamed
  cases s.evq.head? with
  | none => cases first <;> rfl
  | some r =>
    cases first with
    | none => rfl
    | some i => simp [Bool.beq_eq_decide_eq, eq_comm]

theorem reached_eq (s : State) : (s.evq.head?.any fun r =>
    decide (r.state = .active ∧ r.stop ≤ s.dck.depotTime) || decide (r.state = .pending ∧ r.start ≤ s.dck.depotTime)) =
      ((endReached s).isSome || startReached s) := by
  cases hq : s.evq with
  | nil => simp [endReached, activeRecord, startReached, hq]
  | cons r rest =>
    rw [endReached_cons s hq]
    have hs : startReached s = decide (r.state = .pending ∧ r.start ≤ s.dck.depotTime) := by
      simp only [startReached, hq, Bool.decide_and]
    rw [hs, List.head?_cons, Option.any_some]
    split <;> simp_all

/-- The end and the start that come after a cancel or a revise, as the statement has them and as the model takes them. -/
theorem takenAfter_eq (s : State) : takenAfter s = takeAfterRequest s := by
  have hsteps : takenAfter s =
      if (s.evq.head?.any fun r =>
        decide (r.state = .active ∧ r.stop ≤ s.dck.depotTime) || decide (r.state = .pending ∧ r.start ≤ s.dck.depotTime)) = false then s
      else if (eventGoingFirst s).any (fun i => s.drawn.evq.head?.any fun r => r.id == i) then s.drawn
      else if (eventGoingFirst s).any (fun i => (endIfReached s.drawn).evq.head?.any fun r => r.id == i) then endIfReached s.drawn
      else startIfReached (endIfReached s.drawn) := rfl
  rw [hsteps, reached_eq, headNamed_eq, headNamed_eq]
  unfold takeAfterRequest takeReached
  cases (endReached s).isSome || startReached s <;> rfl

/-- Where the first record is PENDING, a cancel or a revise leaves behind it the start of that record, when it is reached and no request of the
record goes before it (R65, log 35). -/
theorem takeAfterRequest_pending {q : EventRecord} {later : List EventRecord} (hq : s.evq = q :: later) (hp : q.state = .pending) :
    takeAfterRequest s =
      if q.start ≤ s.dck.depotTime then (if eventGoingFirst s = some q.id then s.drawn else startFirst s.drawn) else s := by
  have hend : endIfReached s.drawn = s.drawn := by
    rw [endIfReached_cons s.drawn (r := q) (rest := later) hq, if_neg (by simp [hp])]
  have hnamed : headNamed (eventGoingFirst s) s.drawn = true ↔ eventGoingFirst s = some q.id := headNamed_cons (s := s.drawn) hq
  have hreached : ((endReached s).isSome || startReached s) = decide (q.start ≤ s.dck.depotTime) := by
    rw [endReached_cons s hq, if_neg (by simp [hp])]
    simp [startReached, hq, hp]
  unfold takeAfterRequest takeReached
  simp only [hreached, hend, hnamed, decide_eq_true_eq]
  split
  · next hs =>
    split
    · rfl
    · rw [startIfReached_cons s.drawn (r := q) (rest := later) hq, if_pos ⟨hp, hs⟩]
  · rfl

theorem takeAfterRequest_nil (hq : s.evq = []) : takeAfterRequest s = s :=
  takeAfterRequest_of_none s (by simp [endReached, activeRecord, hq]) (by simp [startReached, hq])

/-! ### The record named -/

theorem find_record_none {id : Nat} (h : id ∉ s.evq.map EventRecord.id) : (s.evq.find? fun r => decide (r.id = id)) = none := by
  simpa using h

/-- Checks 2 to 5 of a revise in the words of the statement (R70, log 40). -/
theorem reviseRefusal_eq (now target stop : Nat) (r : EventRecord) : reviseRefusal now target stop r =
    if target ≠ 0 ∧ r.committed < target then some .beyondCommitted
    else if stop ≠ 0 ∧ (r.stop < stop ∨ stop ≤ now ∨ stop < r.referenceStart + 300) then some .badWindow
    else none := by
  have hshort : (stop : Int) - r.referenceStart < 300 ↔ stop < r.referenceStart + 300 := by omega
  simp only [reviseRefusal, hshort]
  by_cases h0 : stop = 0
  · simp [h0]
  · by_cases h1 : r.stop < stop
    · simp [h0, h1]
    · by_cases h2 : stop ≤ now <;> simp [h0, h1, h2]

/-- The actual start of a record in order is there just while it is ACTIVE (R51), so the reference start of a revise is that start (R70). -/
theorem referenceStart_eq {r : EventRecord} (hc : r.Consistent) :
    r.referenceStart = if r.state = .active then r.actualStart.getD 0 else r.start := by
  cases hs : r.state with
  | pending => simp [EventRecord.referenceStart, hs]
  | active =>
    obtain ⟨a, ha⟩ := Option.isSome_iff_exists.mp (hc.active_start.mpr hs)
    simp [EventRecord.referenceStart, hs, ha]

theorem encodeEvent_eq (r : EventRecord) : encodeEvent r = queueRecord r := by
  have hs : r.state.code = if r.state = .active then 1 else 0 := by cases r.state <;> rfl
  simp only [encodeEvent, queueRecord, le16_eq, le32_eq, hs, encodeOption, encodeFlag, flagByte, List.append_assoc, List.cons_append,
    List.nil_append]

section
variable {r : EventRecord} (hok : s.EventsOk) (hr : r ∈ s.evq)
include hok hr

/-- A revise of a record of a sound queue that is refused (R70). -/
theorem reviseNamed_refused {target stop : Nat} {reason : Reason} (h : reviseRefusal s.dck.depotTime target stop r = some reason) :
    reviseNamed r.id target stop s = refuse reason s := by
  simp only [reviseNamed, find_record hok hr, h]

/-- A revise of a record of a sound queue that is accepted: that record alone changes (R71). -/
theorem reviseNamed_accepted {target stop : Nat} (h : reviseRefusal s.dck.depotTime target stop r = none) :
    reviseNamed r.id target stop s = (raiseBoth (eventNotice .revised (r.revised target stop))
      (s.mapEvq fun _ => s.evq.map fun x => if x.id = r.id then r.revised target stop else x),
      .doneOrClamped (decide (target ≠ 0 ∧ target < 10)) (encodeEvent (r.revised target stop))) := by
  have hmap : (s.evq.map fun x => if x.id = r.id then x.revised target stop else x) =
      s.evq.map fun x => if x.id = r.id then r.revised target stop else x := List.map_congr_left fun x hx => by
    split
    · next hid => rw [record_unique hok hr hx hid]
    · rfl
  simp only [reviseNamed, find_record hok hr, h, State.mapEvq, hmap]

theorem cancelNamed_pending (hp : r.state = .pending) : cancelNamed r.id s =
    (raiseBoth (eventNotice .withdrawn r) (s.mapEvq (List.filter fun q => decide (q.id ≠ r.id))), .done []) := by
  simp only [cancelNamed, find_record hok hr, hp]

theorem cancelNamed_active (ha : r.state = .active) : cancelNamed r.id s = (endActive r .cancelled s.dck.depotTime s, .done []) := by
  simp only [cancelNamed, find_record hok hr, ha]

end

/-! ### The request that waits next, and the notice ENDED -/

/-- The id that the waiting request names is read from the queue of commands and from the Grid Link's holding and transmitter. -/
theorem nextEventNamed_congr {t : State} (hp : t.pending = s.pending) (hh : t.grid.holding = s.grid.holding)
    (hs : t.grid.sending = s.grid.sending) : nextEventNamed t = nextEventNamed s := by
  simp only [nextEventNamed, hp, hh, hs]

/-- A port whose transmitter is busy, or which has a request being taken, begins no frame (R184). -/
def Busy (p : Port) : Prop := p.sending = none → ∃ f rest, p.holding = { request := f, answer := none } :: rest

theorem serve_of_busy {p : Port} (h : Busy p) : p.serve = p := by
  unfold Port.serve
  split
  · rfl
  · next hs =>
    obtain ⟨f, rest, hh⟩ := h hs
    rw [hh]

/-- A notice raised on such a port waits behind what it has (R182, R184). -/
theorem raise_of_busy {p : Port} (h : Busy p) (n : Notice) : (p.raise n).holding = p.holding ∧ (p.raise n).sending = p.sending := by
  unfold Port.raise
  split
  · exact ⟨rfl, rfl⟩
  · split
    · rw [serve_of_busy (p := { p with notices := p.notices ++ [n] }) h]
      exact ⟨rfl, rfl⟩
    · rw [serve_of_busy (p := { p with notices := p.notices.tail ++ [n], droppedNotices := satAdd 255 p.droppedNotices 1 }) h]
      exact ⟨rfl, rfl⟩

/-- A sound port is busy while a request row stands in it (R182, R184, log 9). -/
theorem ask_busy {p : Port} (hp : p.Consistent) (f : LinkFrame) : Busy (p.ask f) := by
  intro hs
  have hsending : (p.ask f).sending = p.sending := by
    unfold Port.ask
    split <;> rfl
  obtain ⟨hempty, -⟩ := hp.busy (hsending ▸ hs)
  exact ⟨f, [], by simp [Port.ask, hempty]⟩

/-- So is the Grid Link of a sound state while a request row stands in it. -/
theorem asked_busy (hports : s.PortsOk) {c : Instr} {q : Request} (h : requestOf c = some (.grid, q)) : Busy (s.asked c).grid := by
  rw [asked_request s h, State.mapPort_grid_grid]
  exact ask_busy hports.1 _

/-! ### The state after the ACTIVE record has ended -/

section
variable (s) (r : EventRecord) (cause : EndCause) (n : Nat)

theorem endActive_pending : (endActive r cause n s).pending = s.pending := (Kept.refl s).endActive.1

theorem endActive_draws : (endActive r cause n s).draws = s.draws := by
  rw [endActive_eq, raiseBoth_draws, runPass_draws]
  simp only [beforeEndPass, applyEventEndHolds, changeHolds_draws]
  rw [closeTally_frame]
  rfl

theorem endActive_previousPass : (endActive r cause n s).alc.previousPass = s.dck.uptime := by
  rw [endActive_eq, raiseBoth_alc, runPass_previousPass, beforeEndPass_dck]

theorem endActive_rotState : (endActive r cause n s).rot.state = .off := by
  rw [endActive_eq, raiseBoth_rot, runPass_rot_params, beforeEndPass_rot, rot_finish_eq]

end

/-- An event's end leaves no pending hold (R41). -/
theorem endActive_holds {y : Tally} (hy : s.tly.tally = some y) (r : EventRecord) (cause : EndCause) (n : Nat) :
    ∀ p ∈ (endActive r cause n s).rpt.plans, p.pendingHold = false := by
  obtain ⟨-, brpt, -⟩ := beforeEndPass_open s hy r cause n
  have hcleared : ∀ p ∈ (beforeEndPass r cause n s).rpt.plans, p.pendingHold = false := by
    intro p hp
    rw [brpt] at hp
    obtain ⟨q, -, rfl⟩ := List.mem_map.mp hp
    unfold eventEndChange
    by_cases hq : q.pendingHold = true
    · simp [hq, Plan.holdManual]
    · simp only [hq, if_false, Bool.false_eq_true]
      split <;> simpa [Plan.holdAuto] using hq
  intro p hp
  rw [endActive_eq, raiseBoth_rpt] at hp
  rcases mem_runPass_plans _ hp with h | ⟨q, hq, -, rfl⟩
  · exact hcleared p h
  · exact hcleared q hq

/-- The tally is closed by the end of the ACTIVE record of a sound queue (R149). -/
theorem endActive_tally (hok : s.EventsOk) {r : EventRecord} {rest : List EventRecord} (hq : s.evq = r :: rest) {y : Tally}
    (hy : s.tly.tally = some y) (cause : EndCause) (n : Nat) : (endActive r cause n s).tly.tally = none := by
  have hrest : activeRecord (beforeEndPass r cause n s).evq = none := by
    simpa [hq] using activeRecord_tail s hok hq
  obtain ⟨-, -, htly, -⟩ := runPass_noEvent _ hrest
  obtain ⟨btly, -, -⟩ := beforeEndPass_open s hy r cause n
  rw [endActive_eq, raiseBoth_tly, htly, btly]

/-- The end of the ACTIVE record leaves the waiting request that names a record, while a request row stands on the Grid Link: its notice ENDED
waits there. -/
theorem endActive_eventGoingFirst (hb : Busy s.grid) (r : EventRecord) (cause : EndCause) (n : Nat) :
    eventGoingFirst (endActive r cause n s) = eventGoingFirst s := by
  have hgrid := (endActive_eventPart r cause n s).2
  obtain ⟨hh, hs⟩ := raise_of_busy hb (endedNotice r cause n)
  have hnamed : nextEventNamed (endActive r cause n s) = nextEventNamed s :=
    nextEventNamed_congr (endActive_pending s r cause n) (by rw [hgrid, hh]) (by rw [hgrid, hs])
  simp only [eventGoingFirst, hnamed, endActive_draws]

theorem eventGoingFirst_ne (i : Nat) :
    eventGoingFirst s ≠ some i ↔ ¬(Config.requestFirst s.draws = true ∧ nextEventNamed s = some i) := by
  simp [eventGoingFirst, Option.filter_eq_some_iff, and_comm]

/-- What the statement says of a state after a cancel of the ACTIVE record, whether or not the next one has started. -/
structure Cancelled (s : State) (id committed : Nat) (w : State) : Prop where
  result : ∀ x ∈ w.tly.results.getLast?,
    x.eventId = id ∧ x.cause = .cancelled ∧ x.actualEnd = s.dck.depotTime ∧ x.committedFinal = committed
  pass : w.alc.previousPass = s.dck.uptime
  holds : ∀ p ∈ w.rpt.plans, p.pendingHold = false
  dck : w.dck = s.dck

theorem endActive_cancelled {y : Tally} (hy : s.tly.tally = some y) (r : EventRecord) :
    Cancelled s r.id r.committed (endActive r .cancelled s.dck.depotTime s) where
  result := fun x hx => by
    rw [endActive_result hy, Option.mem_some_iff] at hx
    subst hx
    exact ⟨rfl, rfl, rfl, rfl⟩
  pass := endActive_previousPass s r _ _
  holds := endActive_holds hy r _ _
  dck := (endActive_momentKeeps r _ _ s).dck

theorem startFirst_evq {q : EventRecord} {later : List EventRecord} (hq : s.evq = q :: later) :
    (Machine.startFirst s).evq = q.started s.dck.depotTime :: later := by
  rw [startFirst_eq s hq, raiseBoth_evq, runPass_evq]
  rfl

theorem Cancelled.drawn {id committed : Nat} {w : State} (h : Cancelled s id committed w) : Cancelled s id committed w.drawn where
  result := h.result
  pass := h.pass
  holds := h.holds
  dck := h.dck

/-- A start after it keeps all that (R66). -/
theorem Cancelled.startFirst {id committed : Nat} {w : State} (h : Cancelled s id committed w) {q : EventRecord} {later : List EventRecord}
    (hq : w.evq = q :: later) : Cancelled s id committed (startFirst w) where
  result := by
    rw [(startFirst_spec hq).2.1]
    exact h.result
  pass := by
    rw [startFirst_eq w hq, raiseBoth_alc, runPass_previousPass]
    exact congrArg Dck.uptime h.dck
  holds := fun p hp => by
    rw [startFirst_eq w hq, raiseBoth_rpt] at hp
    rcases mem_runPass_plans _ hp with hp | ⟨q, hq, -, rfl⟩
    · exact h.holds p hp
    · exact h.holds q hq
  dck := ((startFirst_momentKeeps w).dck).trans h.dck

/-- The queue a cancel of the ACTIVE record leaves: the next record has started when its start is reached and no request of it goes first. -/
def queueAfterCancel (now : Nat) (first : Option Nat) : List EventRecord → List EventRecord
  | [] => []
  | q :: later => if q.start ≤ now ∧ first ≠ some q.id then q.started now :: later else q :: later

@[simp] theorem queueAfterCancel_cons (now : Nat) (first : Option Nat) (q : EventRecord) (later : List EventRecord) :
    queueAfterCancel now first (q :: later) =
      if q.start ≤ now ∧ first ≠ some q.id then q.started now :: later else q :: later := rfl

/-- What is taken after the cancel: at most the start of the next record (R65, log 35). -/
theorem Cancelled.takeAfterRequest {id committed : Nat} {w : State} (h : Cancelled s id committed w)
    (hp : ∀ q ∈ w.evq.head?, q.state = .pending) :
    Cancelled s id committed (takeAfterRequest w) ∧
      (Machine.takeAfterRequest w).evq = queueAfterCancel s.dck.depotTime (eventGoingFirst w) w.evq ∧
      ((∀ q ∈ w.evq.head?, s.dck.depotTime < q.start) → Machine.takeAfterRequest w = w) := by
  cases hq : w.evq with
  | nil =>
    rw [takeAfterRequest_nil hq]
    exact ⟨h, hq, fun _ => rfl⟩
  | cons q later =>
    rw [takeAfterRequest_pending hq (hp q (by simp [hq])), h.dck]
    by_cases hs : q.start ≤ s.dck.depotTime
    · rw [if_pos hs]
      by_cases hf : eventGoingFirst w = some q.id
      · simp only [if_pos hf]
        exact ⟨h.drawn, by simpa [hf] using hq, fun hlater => absurd hs (hlater q rfl).not_ge⟩
      · simp only [if_neg hf]
        refine ⟨h.drawn.startFirst hq, ?_, fun hlater => absurd hs (hlater q rfl).not_ge⟩
        have hstart : (Machine.startFirst w.drawn).evq = q.started w.dck.depotTime :: later := startFirst_evq (s := w.drawn) hq
        simp [hstart, hs, hf, h.dck]
    · simp only [if_neg hs]
      exact ⟨h, by simpa [hs] using hq, fun _ => trivial⟩

/-- The state a cancel of the ACTIVE record leaves. -/
theorem cancel_active {r : EventRecord} {rest : List EventRecord} (hok : s.EventsOk) (hq : s.evq = r :: rest) (ha : r.state = .active) :
    let w := endActive r .cancelled s.dck.depotTime s
    w.tly.tally = none ∧ Cancelled s r.id r.committed (takeAfterRequest w) ∧
      (takeAfterRequest w).evq = queueAfterCancel s.dck.depotTime (eventGoingFirst w) rest ∧
      ((∀ q ∈ rest.head?, s.dck.depotTime < q.start) → takeAfterRequest w = w) := by
  intro w
  obtain ⟨y, hy⟩ : ∃ y, s.tly.tally = some y := Option.isSome_iff_exists.mp (hok.tally_open.mpr (by simp [hq, activeRecord, ha]))
  have hevq : w.evq = rest := by
    rw [(endActive_eventPart r _ _ s).1, hq, List.erase_cons_head]
  have hpending : ∀ q ∈ w.evq.head?, q.state = .pending := by
    intro q hmem
    rw [hevq] at hmem
    exact hok.active_first q (by rw [hq]; exact List.mem_of_mem_head? hmem)
  have hafter := (endActive_cancelled hy r).takeAfterRequest hpending
  rw [show (endActive r .cancelled s.dck.depotTime s).evq = rest from hevq] at hafter
  exact ⟨endActive_tally hok hq hy _ _, hafter⟩

/-! ### The statement -/

section
variable (s) (id target stop : Nat)

theorem exec_dispatchRevise : let k := s.asked (.dispatchRevise id target stop)
    exec (.dispatchRevise id target stop) s =
      .next ((takeAfterRequest (reviseNamed id target stop k).1).answering .grid 0x96 (reviseNamed id target stop k).2.body) :=
  exec_row (c := .dispatchRevise id target stop) (l := .grid) (q := .dispatchRevise id target stop) s rfl

theorem exec_dispatchCancel : let k := s.asked (.dispatchCancel id)
    exec (.dispatchCancel id) s = .next ((takeAfterRequest (cancelNamed id k).1).answering .grid 0x97 (cancelNamed id k).2.body) :=
  exec_row (c := .dispatchCancel id) (l := .grid) (q := .dispatchCancel id) s rfl

theorem asked_view (c : Instr) : eventView (s.asked c) = eventView s := by simp [eventView]

end

/-- Settles O52: no such record, a revise of the one there is, and a cancel of it, PENDING or ACTIVE. -/
theorem reviseAndCancelActOnTheRecordNamed : Obligations.ReviseAndCancelActOnTheRecordNamed := by
  intro id target stop s kr kc hok
  have hrevise := exec_dispatchRevise s id target stop
  have hcancel := exec_dispatchCancel s id
  have hokr : kr.EventsOk := eventsOk_congr (asked_view s _) hok
  have hokc : kc.EventsOk := eventsOk_congr (asked_view s _) hok
  have hqr : kr.evq = s.evq := asked_evq s _
  have hqc : kc.evq = s.evq := asked_evq s _
  have hdr : kr.dck = s.dck := asked_dck s _
  have hdc : kc.dck = s.dck := asked_dck s _
  simp -zeta only [takenAfter_eq]
  refine ⟨fun hnone => ⟨?_, ?_⟩, ?_⟩
  · rw [hrevise, reviseNamed, find_record_none (by rwa [hqr])]
    rfl
  · rw [hcancel, cancelNamed, find_record_none (by rwa [hqc])]
    rfl
  rintro r hr rfl
  have hrr : r ∈ kr.evq := by rwa [hqr]
  have hrc : r ∈ kc.evq := by rwa [hqc]
  intro from' r'
  have hfrom : r.referenceStart = from' := by
    rw [referenceStart_eq (hok.records r hr)]
    simp only [from']
    cases r.state <;> rfl
  have hr' : r.revised target stop = r' := by
    have hmax : max target 10 = if target < 10 then 10 else target := by split <;> omega
    simp only [EventRecord.revised, hmax]
    rfl
  have hchecks := reviseRefusal_eq kr.dck.depotTime target stop r
  rw [hdr, hfrom] at hchecks
  refine ⟨?_, fun hp => ?_, fun ha hports => ?_⟩
  · split
    · next h1 =>
      rw [hrevise, reviseNamed_refused hokr hrr (by rw [hdr, hchecks, if_pos h1])]
      rfl
    next h1 =>
    split
    · next h2 =>
      rw [hrevise, reviseNamed_refused hokr hrr (by rw [hdr, hchecks, if_neg h1, if_pos h2])]
      rfl
    · next h2 =>
      rw [hrevise, reviseNamed_accepted hokr hrr (by rw [hdr, hchecks, if_neg h1, if_neg h2]), hr', encodeEvent_eq, hqr]
      by_cases hclamp : target ≠ 0 ∧ target < 10
      · rw [if_pos hclamp, decide_eq_true hclamp]
        rfl
      · rw [if_neg hclamp, decide_eq_false hclamp]
        rfl
  · rw [hcancel, cancelNamed_pending hokc hrc hp, State.mapEvq, hqc]
    rfl
  · obtain ⟨rest, hq⟩ := active_is_first hok hr ha
    obtain ⟨htally, hafter, hevq, hlater⟩ := cancel_active hokc (hqc.trans hq) ha
    have hbusy : Busy kc.grid := asked_busy hports (q := .dispatchCancel r.id) rfl
    rw [endActive_eventGoingFirst hbusy] at hevq
    have hpdc : kc.dck.depotTime = s.dck.depotTime := congrArg Dck.depotTime hdc
    refine ⟨_, hcancel, ?_⟩
    rw [cancelNamed_active hokc hrc ha]
    simp only [answering_evq, answering_tly, answering_alc, answering_rpt, answering_rot, answering_draws]
    refine ⟨?_, ?_, ?_, ?_, ?_⟩
    · rw [hevq, hq]
      cases rest with
      | nil => rfl
      | cons q later =>
        simp only [queueAfterCancel_cons, hpdc, eventGoingFirst_ne]
        rfl
    · exact fun x hx => by simpa [hpdc] using hafter.result x hx
    · exact hafter.pass.trans (congrArg Dck.uptime hdc)
    · exact hafter.holds
    · intro hl
      rw [hlater (by simpa [hq, hpdc] using hl)]
      refine ⟨htally, endActive_rotState .., (endActive_draws ..).trans (asked_draws s _), answering_grid_congr ?_ _ _⟩
      rw [(endActive_eventPart ..).2, hpdc]
      rfl

end Sys2Proof.Dispatch
end

section
/-! What a move of the clock by a request does: the rollover before its moments (R159), and a move that reaches none (R160, R123). -/

namespace Sys2Proof.Dispatch

open Sys2Proof Sys2Proof.Machine Sys2Proof.RoutePlans

variable {s : State}

/-! ### The rollover before the moments -/

/-- The state in which the moments are taken: after the rollover, when the move is one (R159). -/
def rolledOver (roll : Bool) (s : State) : State := if roll then rollover s else s

section
variable (roll : Bool) (s : State)

@[simp] theorem rolledOver_evq : (rolledOver roll s).evq = s.evq := by cases roll <;> simp [rolledOver, rollover]
@[simp] theorem rolledOver_grid : (rolledOver roll s).grid = s.grid := by cases roll <;> simp [rolledOver, rollover]
@[simp] theorem rolledOver_tly : (rolledOver roll s).tly = s.tly := by cases roll <;> simp [rolledOver, rollover]
@[simp] theorem rolledOver_dck : (rolledOver roll s).dck = s.dck := by cases roll <;> simp [rolledOver, rollover]
@[simp] theorem rolledOver_draws : (rolledOver roll s).draws = s.draws := by cases roll <;> simp [rolledOver, rollover]

/-- Of the Site Limit Unit a rollover clears the trip seconds, and a table that is not daily (R119, R133). -/
theorem rolledOver_slu : (rolledOver roll s).slu = { s.slu with
    tableValid := s.slu.tableValid && (s.slu.daily || !roll)
    tripSeconds := if roll then 0 else s.slu.tripSeconds
    experm := (rolledOver roll s).slu.experm } := by
  cases roll with
  | false => simp [rolledOver]
  | true =>
    simp only [rolledOver, if_true, Bool.not_true, Bool.or_false]
    exact rollover_slu s

/-- Of a dock's record a rollover clears the day's throughput (R139). -/
theorem rolledOver_dock (d : Dock) :
    (rolledOver roll s).dock d = { s.dock d with dayThroughput := if roll then 0 else (s.dock d).dayThroughput } := by
  cases roll with
  | false => rfl
  | true => exact rollover_dock s d

end

/-! ### A move of the clock -/

/-- A move into another half hour (R123). -/
theorem entersHalfHour_of_ne {m : ClockMove} {now : Nat} (h : now / 1800 ≠ m.old / 1800) : m.entersHalfHour now = true := by
  simp only [ClockMove.entersHalfHour, Bool.or_eq_true]
  by_cases hd : dayNumber m.old = dayNumber now
  · refine .inl (.inr (decide_eq_true ?_))
    simp only [halfHourIndex, secondOfDay, dayNumber] at hd ⊢
    omega
  · exact .inr (decide_eq_true hd)

/-- Of a move that is not forward no moment is taken but the entry into another half hour, with its pass (R160, R123). -/
theorem takeMoment_backward {m : ClockMove} (hf : m.forward s.dck.depotTime = false) (o : Moment) :
    takeMoment m s o = s ∨ takeMoment m s o = runPass s := by
  cases o <;> simp only [takeMoment, hf, Bool.false_eq_true, if_false, true_or]
  case halfHour =>
    split
    · exact .inr rfl
    · exact .inl rfl

/-- A move that is not forward leaves the queue of events, the Grid Link, the Results List and the site limits (R160). -/
theorem deliver_backward {m : ClockMove} (hf : m.forward s.dck.depotTime = false) (order : List Moment) :
    eventPart (deliver order m s) = eventPart s ∧ (deliver order m s).slu = s.slu := by
  have h := foldl_keeps_pred (fun u => u.dck = s.dck ∧ eventPart u = eventPart s ∧ u.slu = s.slu) (takeMoment m) order
    (fun u o _ ⟨hd, he, hl⟩ => by
      rcases takeMoment_backward (m := m) (s := u) (by rwa [hd]) o with h | h <;> rw [h]
      · exact ⟨hd, he, hl⟩
      · exact ⟨by rw [runPass_dck, hd], by rw [runPass_eventPart, he], by rw [runPass_slu, hl]⟩) s ⟨rfl, rfl, rfl⟩
  exact h.2

/-! ### The record that ends and the one that starts, when no request goes first -/

theorem endingRecord_none (now : Nat) (q : List EventRecord) :
    endingRecord none now q = q.head?.filter fun r => decide (r.state = .active ∧ r.stop ≤ now) := by
  simp [endingRecord]

theorem startingRecord_none (now : Nat) (q : List EventRecord) :
    startingRecord none now q = (queueLeft none now q).head?.filter fun r => decide (r.state = .pending ∧ r.start ≤ now) := by
  simp [startingRecord]

end Sys2Proof.Dispatch
end

section
/-! TIME TRIM (R158, R74): the moments a forward trim reaches, from the facts of a delivery in any order. -/

namespace Sys2Proof.Dispatch

open Sys2Proof Sys2Proof.Machine Sys2Proof.RoutePlans

/-! ### A forward move that no request goes before -/

section
variable {m : ClockMove} {s : State} {order : List Moment} (hm : m.bySet = false) (hf : m.forward s.dck.depotTime = true)
  (h0 : m.requestFirst = none) (ho : order.Perm Moment.all)
include hm hf h0 ho

/-- The queue of events and the Grid Link after it (R65, R67, R76). -/
theorem delivered_events :
    (deliver order m s).evq = (match startingRecord none s.dck.depotTime s.evq with
      | some r => r.started s.dck.depotTime :: (queueLeft none s.dck.depotTime s.evq).tail
      | none => queueLeft none s.dck.depotTime s.evq) ∧
    (deliver order m s).grid = (match startingRecord none s.dck.depotTime s.evq with
      | some r => (match endingRecord none s.dck.depotTime s.evq with
          | some r => s.grid.raise (endedNotice r .complete r.stop)
          | none => s.grid).raise (eventNotice .started (r.started s.dck.depotTime))
      | none => match endingRecord none s.dck.depotTime s.evq with
          | some r => s.grid.raise (endedNotice r .complete r.stop)
          | none => s.grid) := by
  obtain ⟨hq, hg⟩ := deliver_events hm hf ho
  rw [hq, hg, h0, takeReached_evq, takeReached_grid, endTaken_grid]
  exact ⟨rfl, rfl⟩

/-- A first record that is PENDING has its start ahead (R65). -/
theorem delivered_start_ahead : ∀ r ∈ (deliver order m s).evq.head?, r.state = .pending → s.dck.depotTime < r.start := by
  intro r hr hp
  rw [(delivered_events hm hf h0 ho).1] at hr
  cases hs : startingRecord none s.dck.depotTime s.evq with
  | none =>
    rw [hs] at hr
    exact start_ahead hs r hr hp nofun
  | some q =>
    rw [hs] at hr
    cases hr
    cases hp

/-- The result of a record that ends, in the words of the statement (R149, R150). -/
theorem delivered_result {r : EventRecord} (hr : endingRecord none s.dck.depotTime s.evq = some r) {y : Tally} (hy : s.tly.tally = some y)
    (hnext : s.dck.depotTime < y.interval.start + 600) {x : Result} (hx : x ∈ (deliver order m s).tly.results.getLast?) :
    let closed := judged s.tly.meterWeight (r.stop - (passedAt s.tly.meterWeight s.dck.depotTime r y).interval.start)
      (passedAt s.tly.meterWeight s.dck.depotTime r y)
    x.eventId = r.id ∧ x.cause = .complete ∧ x.actualEnd = r.stop ∧ x.committedFinal = r.committed ∧
      x.intervalsTotal = closed.intervalsTotal ∧ x.intervalsMet = closed.intervalsMet ∧ x.worst = closed.worst.getD 0 ∧
      x.divergent = closed.divergent := by
  obtain ⟨yields, z, hlast, hz⟩ := deliver_result hm hf ho (by rwa [h0]) hy hnext
  obtain rfl : resultOf r .complete r.stop yields z = x := by simpa [hlast] using hx
  have hfield : ∀ {α : Type} (f : Tally → α), f (bare z) = f (bare (closedAt s.tly.meterWeight s.dck.depotTime r r.stop y)) :=
    fun f => congrArg f hz
  exact ⟨rfl, rfl, rfl, rfl, hfield Tally.intervalsTotal, hfield Tally.intervalsMet, hfield fun t => t.worst.getD 0,
    hfield Tally.divergent⟩

/-- The tally of an ACTIVE record that does not end (R148). -/
theorem delivered_tally {r : EventRecord} (hr : r ∈ s.evq.head?) (ha : r.state = .active)
    (he : endingRecord none s.dck.depotTime s.evq = none) {y : Tally} (hy : s.tly.tally = some y) :
    ∃ z, (deliver order m s).tly.tally = some z ∧
      z = { passedAt s.tly.meterWeight s.dck.depotTime r y with peakShortfall := z.peakShortfall } := by
  have h := deliver_tally_active hm hf ho hr ha (by rwa [h0])
  rw [hy] at h
  obtain ⟨z, hz, hbare⟩ := Option.map_eq_some_iff.mp h
  exact ⟨z, hz, bare_eq_iff.mp (by rw [hbare, passedAt_bare])⟩

/-- The tally and the echo test after a start (R66, R142). -/
theorem delivered_started {r : EventRecord} (hr : startingRecord none s.dck.depotTime s.evq = some r) :
    (deliver order m s).dnc.echo.state ≠ .running ∧ ∃ y, (deliver order m s).tly.tally = some y ∧ y.eventId = r.id ∧
      y.interval = openedAt s.dck.depotTime r.committed := by
  obtain ⟨hecho, htally⟩ := deliver_started hm hf ho (by rwa [h0])
  obtain ⟨z, hz, hbare⟩ := Option.map_eq_some_iff.mp htally
  exact ⟨hecho, z, hz, congrArg Tally.eventId hbare, congrArg Tally.interval hbare⟩

end

/-! ### The trim -/

/-- The clock once a TIME TRIM has moved it (R158). -/
def trimmed (d : Int) (s : State) : State :=
  { s with dck := { s.dck with depotTime := trimmedTime s d, lastChange := .trim, lastChangeUptime := s.dck.uptime } }

/-- The move of the clock at a TIME TRIM. -/
def trimMove (s : State) : ClockMove := { old := s.dck.depotTime, wasUnset := false, bySet := false, requestFirst := none }

theorem trimClock_eq (order : List Moment) (d : Int) (s : State) : trimClock order d s =
    deliver order (trimMove s) (rolledOver (decide (dayNumber s.dck.depotTime < dayNumber (trimmedTime s d))) (trimmed d s)) := by
  simp only [trimClock, rolledOver, decide_eq_true_eq]
  rfl

theorem doneOrClamped_body (c : Bool) (fields : List Byte) :
    (Answer.doneOrClamped c fields).body = [if c = true then 1 else 0, 0] ++ fields := by
  cases c <;> rfl

/-- A TIME TRIM that passes its checks, in full. -/
theorem exec_timeTrim (d : Int) (s : State) : exec (.timeTrim d) s =
    .next ((requestTimeTrim d (s.asked (.timeTrim d))).1.answering .grid 0x91 (requestTimeTrim d (s.asked (.timeTrim d))).2.body) :=
  exec_row (c := .timeTrim d) (l := .grid) (q := .timeTrim d) s rfl

/-- Settles O38: the checks, and the moments of a trim as the delivery takes them in any order. -/
theorem timeTrimMovesTheClock : Obligations.TimeTrimMovesTheClock := by
  intro d s t roll body k
  have hexec := exec_timeTrim d s
  have hkd : (s.asked (.timeTrim d)).dck = s.dck := asked_dck s _
  split
  · next hrun =>
    rw [hexec, requestTimeTrim, if_pos (by rw [hkd, hrun])]
    rfl
  next hrun =>
  split
  · next hrange =>
    rw [hexec, requestTimeTrim, if_neg (by rw [hkd]; exact hrun), if_pos hrange]
    rfl
  next hrange =>
  have hperm : (drawOrder Moment.all k).Perm Moment.all := freeOrder_perm _ _
  have htime : trimmedTime k.drawn d = t := by
    show (clampInt 0 depotTimeMax ((k.dck.depotTime : Int) + d)).toNat = t
    rw [hkd]
    rfl
  have hclock : trimClock (drawOrder Moment.all k) d k.drawn =
      deliver (drawOrder Moment.all k) (trimMove s) (rolledOver roll (trimmed d k.drawn)) := by
    rw [trimClock_eq, htime]
    simp only [trimMove, State.drawn_dck, k, hkd]
    rfl
  have hxd : (rolledOver roll (trimmed d k.drawn)).dck =
      { s.dck with depotTime := t, lastChange := .trim, lastChangeUptime := s.dck.uptime } := by
    rw [rolledOver_dck]
    simp only [trimmed, htime, State.drawn_dck, k, hkd]
  have hxs := rolledOver_slu roll (trimmed d k.drawn)
  have hxr := rolledOver_dock roll (trimmed d k.drawn)
  have hxq : (rolledOver roll (trimmed d k.drawn)).evq = s.evq := (rolledOver_evq ..).trans (asked_evq s _)
  have hxg : (rolledOver roll (trimmed d k.drawn)).grid = k.grid := rolledOver_grid ..
  have hxt : (rolledOver roll (trimmed d k.drawn)).tly = s.tly := (rolledOver_tly ..).trans (asked_tly s _)
  generalize rolledOver roll (trimmed d k.drawn) = x at hclock hxd hxs hxr hxq hxg hxt
  have hm : (trimMove s).bySet = false := rfl
  have keeps := deliver_momentKeeps hm (drawOrder Moment.all k) x
  have hbody : (requestTimeTrim d k).2.body = body := by
    rw [requestTimeTrim, if_neg (by rw [hkd]; exact hrun), if_neg hrange, hclock]
    simp only [doneOrClamped_body, keeps.dck, hxd, le32_eq, Bool.or_eq_true, decide_eq_true_eq]
    rfl
  have hstate : (requestTimeTrim d k).1 = deliver (drawOrder Moment.all k) (trimMove s) x := by
    rw [requestTimeTrim, if_neg (by rw [hkd]; exact hrun), if_neg hrange, ← hclock]
  refine ⟨_, hexec, ?_⟩
  rw [hbody, hstate]
  simp -zeta only [answering_dck, answering_slu, answering_dock, answering_evq, answering_rpt, answering_tly, answering_dnc, answering_alc]
  refine ⟨keeps.dck.trans hxd, answering_lastAnswer .., ?_, ?_, ?_, fun e => ?_, fun hlt => ?_, fun hlt => ?_, fun hhalf => ?_, fun hle => ?_⟩
  · rw [keeps.slu, hxs]
    rfl
  · rw [keeps.slu, hxs]
    rfl
  · rw [keeps.slu, hxs]
    rfl
  · obtain ⟨hst, hv, -, hday⟩ := keeps.docks e
    rw [hst, hv, hday, hxr, show (trimmed d k.drawn).dock e = s.dock e from asked_dock s _ e]
    exact ⟨rfl, rfl, rfl⟩
  · have hf : (trimMove s).forward x.dck.depotTime = true := by simpa [hxd, trimMove, ClockMove.forward] using hlt
    have hlimit := deliver_limit hm hf hperm
    have hahead := delivered_start_ahead hm hf rfl hperm
    have hdue := deliver_due hm hf hperm (by rw [hxd]; simpa using hrun)
    rw [hxd] at hlimit hahead hdue
    exact ⟨fun o ho => (hlimit o ho).1, hahead, hdue⟩
  · have hf : (trimMove s).forward x.dck.depotTime = true := by simpa [hxd, trimMove, ClockMove.forward] using hlt
    intro ending left starts started passed ends
    have hevents := delivered_events hm hf rfl hperm
    have hresults := deliver_results hm hf hperm
    have hresult := @delivered_result _ _ _ hm hf rfl hperm
    have htally := @delivered_tally _ _ _ hm hf rfl hperm
    have hstarted := @delivered_started _ _ _ hm hf rfl hperm
    have hending : endingRecord none t s.evq = ending := endingRecord_none t s.evq
    have hleft : queueLeft none t s.evq = left := by rw [queueLeft, hending]
    have hstarts : startingRecord none t s.evq = starts := by rw [startingRecord_none, hleft]
    rw [show (trimMove s).requestFirst = none from rfl] at hresults
    simp only [hxd, hxq, hxg, hxt, hending, hleft, hstarts] at hevents hresults hresult htally hstarted
    obtain ⟨hq, hg⟩ := hevents
    exact ⟨hq, hresults, fun r hr y hy hnext z hz => hresult hr hy hnext hz, fun he r hr ha y hy => htally hr ha he hy,
      fun r hr => hstarted hr, answering_grid_congr hg _ _⟩
  · have := deliver_halfHour (s := x) hm hperm (entersHalfHour_of_ne (by rw [hxd]; exact hhalf))
    rw [this, hxd]
  · have hf : (trimMove s).forward x.dck.depotTime = false := by simpa [hxd, trimMove, ClockMove.forward] using hle
    obtain ⟨hevents, hslu⟩ := deliver_backward hf (drawOrder Moment.all k)
    simp only [eventPart, Prod.mk.injEq, hxq, hxg, hxt] at hevents
    obtain ⟨hq, hg, hr⟩ := hevents
    refine ⟨hq, ?_, hr, answering_grid_congr hg _ _⟩
    rw [hslu, hxs]
    rfl

end Sys2Proof.Dispatch
end

section
/-! The moments of a TIME SET (R157, R73, R75): what expires, and a delivery in any order around the Event Queue's moment. -/

namespace Sys2Proof.Dispatch

open Sys2Proof Sys2Proof.Machine Sys2Proof.RoutePlans

variable {s : State}

/-! ### Results added one after the other (R152) -/

/-- The results that a list of results longer than six has lost unread. -/
def lostUnread (list : List Result) : Nat := ((list.take (list.length - 6)).filter fun x => !x.read).length

theorem lostUnread_of_length_le {list : List Result} (h : list.length ≤ 6) : lostUnread list = 0 := by
  rw [lostUnread, Nat.sub_eq_zero_of_le h]
  rfl

/-- The oldest of a list longer than six is lost, unread or not. -/
theorem lostUnread_cons {x : Result} {list : List Result} (h : 6 ≤ list.length) :
    lostUnread (x :: list) = (if x.read then 0 else 1) + lostUnread list := by
  have hlen : (x :: list).length - 6 = (list.length - 6) + 1 := by simp only [List.length_cons]; omega
  rw [lostUnread, hlen, List.take_succ_cons, lostUnread, List.filter_cons]
  cases x.read <;> simp [Nat.add_comm]

/-- Counting `n` lost results at once. -/
def lostAfter (n count : Nat) : Nat := if n = 0 then count else min 255 (count + n)

theorem lostAfter_add (a b count : Nat) : lostAfter b (lostAfter a count) = lostAfter (a + b) count := by
  unfold lostAfter
  rcases Nat.eq_zero_or_pos a with rfl | ha
  · rw [if_pos rfl, Nat.zero_add]
  · rw [if_neg (by omega : ¬a = 0), if_neg (by omega : ¬a + b = 0)]
    split <;> omega

/-- The Results List holds the newest six, and counts what it lost unread (R152). -/
theorem foldl_addResult (xs : List Result) (y : Tly) (h : y.results.length ≤ 6) :
    (xs.foldl (fun t x => t.addResult x) y).results = (y.results ++ xs).drop ((y.results ++ xs).length - 6) ∧
      (xs.foldl (fun t x => t.addResult x) y).resultsLost = lostAfter (lostUnread (y.results ++ xs)) y.resultsLost := by
  induction xs generalizing y with
  | nil =>
    rw [List.append_nil, lostUnread_of_length_le h, Nat.sub_eq_zero_of_le h]
    exact ⟨rfl, rfl⟩
  | cons x xs ih =>
    obtain ⟨hr, hl⟩ := ih (y.addResult x) (addResult_length x y h)
    rw [List.foldl_cons, hr, hl]
    by_cases hlt : y.results.length < 6
    · have hadd : y.addResult x = { y with results := y.results ++ [x] } := by rw [Tly.addResult, if_pos hlt]
      rw [hadd]
      simp
    · obtain ⟨old, rest, hy⟩ : ∃ old rest, y.results = old :: rest := List.exists_cons_of_ne_nil (by intro hn; simp [hn] at hlt)
      have hlen : rest.length = 5 := by simp only [hy, List.length_cons] at h hlt; omega
      have hadd : y.addResult x = { y with
          results := rest ++ [x], resultsLost := lostAfter (if old.read then 0 else 1) y.resultsLost } := by
        rw [Tly.addResult, if_neg hlt, hy]
        cases hread : old.read <;> simp [lostAfter, satAdd, hread]
      rw [hadd]
      simp only [hy, List.append_assoc, List.cons_append, List.nil_append]
      rw [lostUnread_cons (by simp [hlen]; omega), ← lostAfter_add]
      refine ⟨?_, rfl⟩
      rw [show (old :: (rest ++ x :: xs)).length - 6 = (rest ++ x :: xs).length - 6 + 1 by simp [hlen]; omega, List.drop_succ_cons]

/-! ### The expiries (R73, R75) -/

theorem addResult_meterWeight (x : Result) (y : Tly) : (y.addResult x).meterWeight = y.meterWeight := by
  unfold Tly.addResult
  split <;> rfl

/-- What the expiry of some records leaves: each in turn adds its result and raises its notice ENDED. -/
theorem foldl_expireRecord (l : List EventRecord) (s : State) :
    let u := l.foldl (fun t r => expireRecord r t) s
    u.evq = s.evq ∧ u.grid = l.foldl (fun p r => p.raise (endedNotice r .expired r.stop)) s.grid ∧
      u.tly = (l.map expiredResult).foldl (fun t x => t.addResult x) s.tly ∧ u.draws = s.draws ∧ MomentKeeps s u := by
  induction l generalizing s with
  | nil => exact ⟨rfl, rfl, rfl, rfl, .refl s⟩
  | cons r l ih =>
    obtain ⟨hq, hg, ht, hd, hk⟩ := ih (expireRecord r s)
    have hone : MomentKeeps s (expireRecord r s) :=
      MomentKeeps.trans (t := { s with tly := s.tly.addResult (expiredResult r) })
        ⟨rfl, rfl, .inl rfl, rfl, fun p hp hw => ⟨p, hp, hw, rfl⟩, fun _ => ⟨rfl, rfl, rfl, rfl⟩, .inl rfl, addResult_meterWeight _ _, id⟩
        (raiseBoth_momentKeeps _ _)
    simp only [List.foldl_cons, List.map_cons]
    refine ⟨hq.trans ?_, hg.trans ?_, ht.trans ?_, hd.trans ?_, hone.trans hk⟩ <;> simp [expireRecord]

/-- The records that expire, and the ones left, where none is ACTIVE. -/
theorem expirePassed_pending (h : holdsActive s.evq = false) :
    expirePassed s = (s.evq.filter fun r => decide (r.stop ≤ s.dck.depotTime)).foldl (fun t r => expireRecord r t)
      (s.mapEvq fun _ => s.evq.filter fun r => decide (s.dck.depotTime < r.stop)) := by
  have hp : ∀ r ∈ s.evq, r.state = .pending := by
    intro r hr
    have := (List.any_eq_false.mp h) r hr
    cases hs : r.state with
    | pending => rfl
    | active => simp [hs] at this
  have hout : (s.evq.filter fun r => decide (r.state = .pending) && decide (r.stop ≤ s.dck.depotTime)) =
      s.evq.filter fun r => decide (r.stop ≤ s.dck.depotTime) := List.filter_congr fun r hr => by simp [hp r hr]
  have hleft : (s.evq.filter fun r => !(decide (r.state = .pending) && decide (r.stop ≤ s.dck.depotTime))) =
      s.evq.filter fun r => decide (s.dck.depotTime < r.stop) :=
    List.filter_congr fun r hr => by
      simp only [hp r hr, decide_true, Bool.true_and, ← decide_not, Nat.not_le]
  unfold expirePassed State.mapEvq
  simp only [hout, hleft]

theorem expirePassed_momentKeeps (s : State) : MomentKeeps s (expirePassed s) := by
  refine MomentKeeps.trans ?_ (foldl_expireRecord _ _).2.2.2.2
  exact ⟨rfl, rfl, .inl rfl, rfl, fun p hp hw => ⟨p, hp, hw, rfl⟩, fun _ => ⟨rfl, rfl, rfl, rfl⟩, .inl rfl, rfl, id⟩

/-! ### A delivery of any move -/

/-- The same move, as one that expires nothing. -/
def countedMove (m : ClockMove) : ClockMove := { m with bySet := false }

/-- A TIME SET differs from another move by the Event Queue's moment alone (R73). -/
theorem takeMoment_counted (m : ClockMove) {o : Moment} (ho : o ≠ .eventQueue) (s : State) :
    takeMoment m s o = takeMoment (countedMove m) s o := by
  cases o
  case eventQueue => exact absurd rfl ho
  all_goals rfl

/-- Any moment of any move keeps what the moments keep. -/
theorem anyMoment_keeps (m : ClockMove) (o : Moment) (s : State) : MomentKeeps s (takeMoment m s o) := by
  by_cases ho : o = .eventQueue
  · subst ho
    unfold takeMoment eventMoments
    dsimp only
    split
    · refine MomentKeeps.trans ?_ (takeReached_momentKeeps _ _)
      split
      · exact expirePassed_momentKeeps s
      · exact .refl s
    · exact .refl s
  · rw [takeMoment_counted m ho]
    exact takeMoment_momentKeeps rfl o s

theorem anyDelivery_keeps (m : ClockMove) (order : List Moment) (s : State) : MomentKeeps s (deliver order m s) :=
  foldl_keeps_pred (MomentKeeps s) _ order (fun u o _ hu => hu.trans (anyMoment_keeps m o u)) s (.refl s)

/-- What one moment of a delivery of any move establishes, and every moment keeps, holds after it. -/
theorem deliver_makes {m : ClockMove} {P : State → Prop} (o : Moment) {order : List Moment} (ho : order.Perm Moment.all)
    (hest : ∀ u, u.dck = s.dck → P (takeMoment m u o)) (hkeep : ∀ u w, MomentKeeps u w → P u → P w) : P (deliver order m s) := by
  obtain ⟨l1, l2, rfl, -, -⟩ := order_split ho o
  rw [deliver_split]
  exact hkeep _ _ (anyDelivery_keeps m l2 _) (hest _ (anyDelivery_keeps m l1 s).dck)

section
variable {m : ClockMove} {order : List Moment} (ho : order.Perm Moment.all)
include ho

/-- A move into another half hour has a pass (R123). -/
theorem deliver_pass (he : m.entersHalfHour s.dck.depotTime = true) : (deliver order m s).alc.previousPass = s.dck.uptime := by
  refine deliver_makes (P := fun u => u.alc.previousPass = s.dck.uptime ∧ u.dck = s.dck) .halfHour ho (fun u hu => ?_)
    (fun u w k ⟨hu, hd⟩ => ?_) |>.1
  · have hpass : takeMoment m u .halfHour = runPass u := by simp [takeMoment, hu, he]
    rw [hpass, runPass_previousPass, runPass_dck, hu]
    exact ⟨rfl, rfl⟩
  · refine ⟨?_, k.dck.trans hd⟩
    rcases k.pass with hp | hp
    · rw [hp, hu]
    · rw [hp, hd]

variable (hf : m.forward s.dck.depotTime = true)
include hf

/-- A forward move leaves no override whose expiry is reached (R121). -/
theorem deliver_override : ∀ o ∈ (deliver order m s).slu.limit, s.dck.depotTime < o.expiry := by
  refine deliver_makes (P := fun u => ∀ o ∈ u.slu.limit, s.dck.depotTime < o.expiry) .limit ho (fun u hu => ?_) fun u w k hu o hw => ?_
  · have hlimit : takeMoment m u .limit = overrideIfReached u := by simp [takeMoment, hu, hf]
    rw [hlimit]
    unfold overrideIfReached
    split
    · simp
    · next hn =>
      intro o hl
      by_contra hle
      exact hn ((overrideReached_iff u).mpr ⟨o, hl, by rw [hu]; exact Nat.not_lt.mp hle⟩)
  · rcases k.limit with hl | hl <;> rw [hl] at hw
    · exact hu o hw
    · cases hw

/-- A forward move leaves no WAITING entry whose point is reached (R32). -/
theorem deliver_waiting (hr : s.dck.running = true) : ∀ p ∈ (deliver order m s).rpt.plans, p.state = .waiting →
    s.dck.depotTime < p.departure - (deliver order m s).rpt.readyLead := by
  refine deliver_makes (P := fun u => ∀ p ∈ u.rpt.plans, p.state = .waiting → s.dck.depotTime < p.departure - u.rpt.readyLead)
    .planTable ho (fun u hu => ?_) fun u w k hu p hp hw => ?_
  · have hdue : takeMoment m u .planTable = u.mapPlans (List.map (dueAt u.rpt.readyLead s.dck.depotTime)) := by
      simp [takeMoment, hu, hf, checkDue, hr]
    rw [hdue]
    rintro p hp hw
    obtain ⟨q, -, rfl⟩ := List.mem_map.mp hp
    unfold dueAt at hw ⊢
    split at hw
    · cases hw
    · next hn =>
      rw [if_neg hn]
      exact Nat.lt_of_not_le fun hle => hn ⟨hw, hle⟩
  · obtain ⟨q, hq, hqw, hqd⟩ := k.waiting p hp hw
    rw [k.lead, ← hqd]
    exact hu q hq hqw

/-- A forward delivery of any move, around the Event Queue's moment: the moments before it and after it are those of a counted move. -/
theorem deliver_aroundQueue : ∃ l1 l2, .eventQueue ∉ l1 ∧ .eventQueue ∉ l2 ∧
    deliver order m s = deliver l2 (countedMove m) (eventMoments m (deliver l1 (countedMove m) s)) := by
  have hcounted : ∀ (l : List Moment), .eventQueue ∉ l → ∀ u, deliver l m u = deliver l (countedMove m) u := fun l hl u =>
    List.foldl_ext _ _ u fun v o h => takeMoment_counted m (fun hc => hl (hc ▸ h)) v
  obtain ⟨l1, l2, rfl, h1, h2⟩ := order_split ho .eventQueue
  refine ⟨l1, l2, h1, h2, ?_⟩
  rw [deliver_split, hcounted l1 h1, hcounted l2 h2, takeMoment, (anyDelivery_keeps (countedMove m) l1 s).dck, hf, if_pos rfl]

end

/-! ### The draws and the count of lost results -/

/-- The draws used, and the results lost unread, which no moment but the Event Queue's adds to. -/
def usedAndLost (s : State) : Nat × Nat := (s.draws, s.tly.resultsLost)

theorem runPass_usedAndLost (s : State) : usedAndLost (runPass s) = usedAndLost s := by
  rw [usedAndLost, runPass_draws, runPass_tly_rest]
  rfl

theorem settled_usedAndLost (r : EventRecord) (s : State) : usedAndLost (settled r s) = usedAndLost s := by
  simp [usedAndLost, settled]

theorem takeMoment_usedAndLost (m : ClockMove) {o : Moment} (ho : o ≠ .eventQueue) (s : State) :
    usedAndLost (takeMoment m s o) = usedAndLost s := by
  cases o with
  | eventQueue => exact absurd rfl ho
  | planTable =>
    unfold takeMoment checkDue
    dsimp only
    split
    · split <;> rfl
    · rfl
  | tally =>
    unfold takeMoment settlementIfReached
    dsimp only
    split
    · split
      · cases h : activeRecord s.evq with
        | none => simp only [passSettlement, h]
        | some r =>
          rw [passSettlement_eq s h]
          split
          · rw [runPass_usedAndLost, settled_usedAndLost]
          · exact settled_usedAndLost r s
      · rfl
    · rfl
  | halfHour =>
    unfold takeMoment
    dsimp only
    split
    · exact runPass_usedAndLost s
    · rfl
  | limit =>
    unfold takeMoment overrideIfReached
    dsimp only
    split
    · split
      · exact runPass_usedAndLost _
      · rfl
    · rfl

theorem deliver_usedAndLost (m : ClockMove) {l : List Moment} (hl : .eventQueue ∉ l) (s : State) :
    usedAndLost (deliver l m s) = usedAndLost s :=
  foldl_keeps_pred (fun u => usedAndLost u = usedAndLost s) _ l
    (fun u _ ho hu => (takeMoment_usedAndLost m (fun h => hl (h ▸ ho)) u).trans hu) s rfl

theorem startFirst_usedAndLost (s : State) : usedAndLost (startFirst s) = usedAndLost s := by
  cases hq : s.evq with
  | nil => simp only [startFirst, hq]
  | cons r rest =>
    rw [startFirst_eq s hq, usedAndLost, raiseBoth_draws, raiseBoth_tly]
    exact runPass_usedAndLost _

theorem takeReached_draws (first : Option Nat) (s : State) : (takeReached first s).draws = s.draws := by
  have hend : (endIfReached s).draws = s.draws := by
    unfold endIfReached
    split
    · exact endActive_draws ..
    · rfl
  have hstart : (startIfReached (endIfReached s)).draws = (endIfReached s).draws := by
    unfold startIfReached
    split
    · exact congrArg Prod.fst (startFirst_usedAndLost _)
    · rfl
  rcases takeReached_cases s first with ⟨_, e⟩ | ⟨_, _, e⟩ | ⟨_, _, e⟩ <;> rw [e]
  · exact hend
  · exact hstart.trans hend

theorem expirePassed_draws (s : State) : (expirePassed s).draws = s.draws :=
  (foldl_expireRecord _ _).2.2.2.1

/-- No moment of a move draws a free value. -/
theorem deliver_draws (m : ClockMove) (order : List Moment) (s : State) : (deliver order m s).draws = s.draws :=
  foldl_keeps_pred (fun u => u.draws = s.draws) _ order (fun u o _ hu => by
    by_cases ho : o = .eventQueue
    · subst ho
      unfold takeMoment eventMoments
      dsimp only
      split
      · rw [takeReached_draws]
        split
        · rw [expirePassed_draws, hu]
        · exact hu
      · exact hu
    · exact (congrArg Prod.fst (takeMoment_usedAndLost m ho u)).trans hu) s rfl

end Sys2Proof.Dispatch
end

section
/-! TIME SET (R157, R73, R75): the expiries and the start of a forward set, from its delivery in any order. -/

namespace Sys2Proof.Dispatch

open Sys2Proof Sys2Proof.Machine Sys2Proof.RoutePlans

/-! ### The end and the start in a queue without an ACTIVE record -/

section
variable {now : Nat} {q : List EventRecord} (hp : ∀ r ∈ q, r.state = .pending)
include hp

theorem endingRecord_pending (first : Option Nat) : endingRecord first now q = none := by
  refine Option.filter_eq_none_iff.mpr fun r hr => ?_
  simp [hp r (List.mem_of_mem_head? hr)]

theorem queueLeft_pending (first : Option Nat) : queueLeft first now q = q := by
  rw [queueLeft, endingRecord_pending hp]
  rfl

theorem startingRecord_pending : startingRecord none now q = q.head?.filter fun r => decide (r.start ≤ now) := by
  rw [startingRecord_none, queueLeft_pending hp]
  cases hq : q with
  | nil => rfl
  | cons r rest => simp [Option.filter, hp r (by simp [hq])]

end

theorem pending_of_noActive {q : List EventRecord} (h : holdsActive q = false) : ∀ r ∈ q, r.state = .pending := by
  intro r hr
  have hne := List.any_eq_false.mp h r hr
  cases hs : r.state with
  | pending => rfl
  | active => simp [hs] at hne

section
variable {v : State} (hp : ∀ r ∈ v.evq, r.state = .pending)
include hp

/-- Without an ACTIVE record the moment takes at most the start of the first record (R65). -/
theorem takeReached_pending : takeReached none v =
    if (v.evq.head?.filter fun r => decide (r.start ≤ v.dck.depotTime)).isSome then startFirst v else v := by
  have hend : endTaken none v = v := by rw [endTaken, endingRecord_pending hp]
  rw [takeReached_eq, startingRecord_pending hp, hend]

theorem takeReached_pending_usedAndLost : usedAndLost (takeReached none v) = usedAndLost v := by
  rw [takeReached_pending hp]
  split
  · exact startFirst_usedAndLost v
  · rfl

theorem takeReached_pending_evq : (takeReached none v).evq =
    match v.evq.head?.filter fun r => decide (r.start ≤ v.dck.depotTime) with
    | some r => r.started v.dck.depotTime :: v.evq.tail
    | none => v.evq := by
  have h := takeReached_evq (first := none) (s := v)
  rw [startingRecord_pending hp, queueLeft_pending hp] at h
  exact h

theorem takeReached_pending_grid : (takeReached none v).grid =
    match v.evq.head?.filter fun r => decide (r.start ≤ v.dck.depotTime) with
    | some r => v.grid.raise (eventNotice .started (r.started v.dck.depotTime))
    | none => v.grid := by
  have h := takeReached_grid (first := none) (s := v)
  rw [startingRecord_pending hp, endTaken_grid, endingRecord_pending hp] at h
  exact h

theorem takeReached_pending_results : (takeReached none v).tly.results = v.tly.results := by
  rw [takeReached_results, endTaken, endingRecord_pending hp]

end

/-- A tally just opened is not judged by the moments that follow (R148). -/
theorem deliver_opened {m : ClockMove} {u : State} {l : List Moment} (hm : m.bySet = false) (hf : m.forward u.dck.depotTime = true)
    (hl : .eventQueue ∉ l) {r : EventRecord} (ht : u.tly.tally.map bare = some (bare (Tally.opened r u.dck.depotTime))) :
    (deliver l m u).tly.tally.map bare = some (bare (Tally.opened r u.dck.depotTime)) := by
  refine deliver_tally_within hm hf (Q := fun y => y = some (bare (Tally.opened r u.dck.depotTime))) ?_ hl ht
  rintro _ rfl
  rw [Option.map_some, settledTally_bare]
  unfold settledTally
  split
  · rw [passedAt, if_neg]
    simp [Tally.opened, Interval.opened]
  · rfl

/-! ### A forward set -/

section
variable {m : ClockMove} {x : State} {order : List Moment} (hm : m.bySet = true) (hf : m.forward x.dck.depotTime = true)
  (h0 : m.requestFirst = none) (ho : order.Perm Moment.all) (hno : holdsActive x.evq = false)
include hm hf h0 ho hno

/-- A forward set in any order: some state with what has expired gone takes the start, and moments that leave the Event Queue's part follow. -/
theorem deliver_set : ∃ v l, .eventQueue ∉ l ∧ deliver order m x = deliver l (countedMove m) (takeReached none v) ∧
    v.dck = x.dck ∧ v.evq = (x.evq.filter fun r => decide (x.dck.depotTime < r.stop)) ∧
    v.grid = (x.evq.filter fun r => decide (r.stop ≤ x.dck.depotTime)).foldl (fun p r => p.raise (endedNotice r .expired r.stop)) x.grid ∧
    (x.tly.results.length ≤ 6 →
      let list := x.tly.results ++ (x.evq.filter fun r => decide (r.stop ≤ x.dck.depotTime)).map expiredResult
      v.tly.results = list.drop (list.length - 6) ∧ v.tly.resultsLost = lostAfter (lostUnread list) x.tly.resultsLost) := by
  obtain ⟨l1, l2, h1, h2, e⟩ := deliver_aroundQueue ho hf
  obtain ⟨q1, g1, r1⟩ := deliver_keeps_events (m := countedMove m) h1 x
  have hlost : (deliver l1 (countedMove m) x).tly.resultsLost = x.tly.resultsLost :=
    congrArg Prod.snd (deliver_usedAndLost (countedMove m) h1 x)
  have d1 := (anyDelivery_keeps (countedMove m) l1 x).dck
  generalize deliver l1 (countedMove m) x = w at e q1 g1 r1 hlost d1
  have hexpire := expirePassed_pending (s := w) (by rw [q1]; exact hno)
  rw [q1, d1] at hexpire
  obtain ⟨hq, hg, ht, -, -⟩ := foldl_expireRecord (x.evq.filter fun r => decide (r.stop ≤ x.dck.depotTime))
    (w.mapEvq fun _ => x.evq.filter fun r => decide (x.dck.depotTime < r.stop))
  rw [← hexpire] at hq hg ht
  refine ⟨expirePassed w, l2, h2, ?_, (expirePassed_momentKeeps w).dck.trans d1, hq, ?_, fun hlen => ?_⟩
  · rw [e, eventMoments, hm, h0]
    rfl
  · rw [hg, State.mapEvq_grid, g1]
  · rw [ht, State.mapEvq_tly, ← r1, ← hlost]
    exact foldl_addResult _ _ (by rw [r1]; exact hlen)

/-- The queue of events, the Grid Link and the results after it, and the tally and echo test of a start (R65, R73, R75, R152). -/
theorem deliver_set_events :
    let out := x.evq.filter fun r => decide (r.stop ≤ x.dck.depotTime)
    let left := x.evq.filter fun r => decide (x.dck.depotTime < r.stop)
    let starts := left.head?.filter fun r => decide (r.start ≤ x.dck.depotTime)
    let list := x.tly.results ++ out.map expiredResult
    let ends := out.foldl (fun p r => p.raise (endedNotice r .expired r.stop)) x.grid
    (deliver order m x).evq = (match starts with | some r => r.started x.dck.depotTime :: left.tail | none => left) ∧
      (x.tly.results.length ≤ 6 → (deliver order m x).tly.results = list.drop (list.length - 6) ∧
        (deliver order m x).tly.resultsLost = lostAfter (lostUnread list) x.tly.resultsLost) ∧
      (∀ r ∈ starts, (deliver order m x).dnc.echo.state ≠ .running ∧ ∃ y, (deliver order m x).tly.tally = some y ∧ y.eventId = r.id ∧
        y.interval = openedAt x.dck.depotTime r.committed) ∧
      (deliver order m x).grid =
        (match starts with | some r => ends.raise (eventNotice .started (r.started x.dck.depotTime)) | none => ends) := by
  intro out left starts list ends
  obtain ⟨v, l, hl, e, hd, hq, hg, hres⟩ := deliver_set hm hf h0 ho hno
  have hp : ∀ r ∈ v.evq, r.state = .pending := fun r hr =>
    pending_of_noActive hno r (List.mem_of_mem_filter (by rwa [hq] at hr))
  obtain ⟨q2, g2, r2⟩ := deliver_keeps_events (m := countedMove m) hl (takeReached none v)
  have hlost := congrArg Prod.snd ((deliver_usedAndLost (countedMove m) hl (takeReached none v)).trans (takeReached_pending_usedAndLost hp))
  rw [← e] at q2 g2 r2 hlost
  refine ⟨?_, fun hlen => ?_, fun r hr => ?_, ?_⟩
  · rw [q2, takeReached_pending_evq hp, hd, hq]
  · rw [r2, takeReached_pending_results hp]
    exact ⟨(hres hlen).1, hlost.trans (hres hlen).2⟩
  · have hstart : startingRecord none v.dck.depotTime v.evq = some r := by
      rw [startingRecord_pending hp, hd, hq]
      exact hr
    obtain ⟨htally, hecho⟩ := takeReached_started hstart
    have ht := (takeReached_momentKeeps none v).dck
    rw [← ht] at htally
    have hopen := deliver_opened (m := countedMove m) rfl (by rw [ht, hd]; exact hf) hl htally
    rw [← e, ht, hd] at hopen
    obtain ⟨y, hy, hbare⟩ := Option.map_eq_some_iff.mp hopen
    refine ⟨?_, y, hy, congrArg Tally.eventId hbare, congrArg Tally.interval hbare⟩
    rw [e]
    exact fun hc => hecho ((anyDelivery_keeps (countedMove m) l _).echo hc)
  · rw [g2, takeReached_pending_grid hp, hd, hq, hg]

/-- What it leaves PENDING has its end ahead, and its start too where it is the first record (R65, R73). -/
theorem deliver_set_ahead : (∀ r ∈ (deliver order m x).evq, r.state = .pending → x.dck.depotTime < r.stop) ∧
    (∀ r ∈ (deliver order m x).evq.head?, r.state = .pending → x.dck.depotTime < r.start) := by
  have hq := (deliver_set_events hm hf h0 ho hno).1
  have hleft : ∀ r ∈ x.evq.filter fun r => decide (x.dck.depotTime < r.stop), x.dck.depotTime < r.stop := fun r hr =>
    of_decide_eq_true (List.mem_filter.mp hr).2
  cases hs : (x.evq.filter fun r => decide (x.dck.depotTime < r.stop)).head?.filter fun r => decide (r.start ≤ x.dck.depotTime) with
  | none =>
    simp only [hs] at hq
    rw [hq]
    exact ⟨fun r hr _ => hleft r hr, fun r hr _ => by simpa using (Option.filter_eq_none_iff.mp hs) r hr⟩
  | some first =>
    simp only [hs] at hq
    rw [hq]
    refine ⟨fun r hr hp => ?_, fun r hr hp => ?_⟩
    · rcases List.mem_cons.mp hr with rfl | hr
      · cases hp
      · exact hleft r (List.mem_of_mem_tail hr)
    · cases hr
      cases hp

end

/-! ### The set -/

/-- The clock once a TIME SET has set it, with EXPERM following its start (R157, R132). -/
def wasSet (t : Nat) (s : State) : State := settleExperm { s with dck := s.dck.setTo t }

/-- The move of the clock at a TIME SET. -/
def setMove (s : State) : ClockMove := { old := s.dck.depotTime, wasUnset := !s.dck.running, bySet := true, requestFirst := none }

theorem setClock_eq (order : List Moment) (t : Nat) (s : State) : setClock order t s =
    deliver order (setMove s) (rolledOver (setRollsOver s t) (wasSet t s)) := rfl

/-- Where EXPERM follows its conditions it follows them after a rollover too (R132). -/
theorem rolledOver_experm {x : State} (h : x.slu.experm = expermCondition x) (roll : Bool) :
    (rolledOver roll x).slu.experm = expermCondition (rolledOver roll x) := by
  cases roll with
  | false => exact h
  | true => rfl

/-- A TIME SET as a request row. -/
theorem exec_timeSet (t : Nat) (s : State) : exec (.timeSet t) s =
    .next ((requestTimeSet t (s.asked (.timeSet t))).1.answering .grid 0x90 (requestTimeSet t (s.asked (.timeSet t))).2.body) :=
  exec_row (c := .timeSet t) (l := .grid) (q := .timeSet t) s rfl

/-- Settles O37: the checks, and the moments of a set as the delivery takes them in any order. -/
theorem timeSetMovesTheClock : Obligations.TimeSetMovesTheClock := by
  intro t s roll body k
  have hexec := exec_timeSet t s
  have hkd : k.dck = s.dck := asked_dck s _
  have hkq : k.evq = s.evq := asked_evq s _
  split
  · next htime =>
    rw [hexec, requestTimeSet, if_pos (show depotTimeMax < t from htime)]
    rfl
  next htime =>
  have hin : ¬depotTimeMax < t := htime
  split
  · next hactive =>
    rw [hexec, requestTimeSet, if_neg hin, if_pos (by rw [holdsActive, asked_evq]; exact hactive)]
    rfl
  next hactive =>
  have hno : holdsActive s.evq = false := Bool.eq_false_iff.mpr hactive
  have hperm : (drawOrder Moment.all k).Perm Moment.all := freeOrder_perm _ _
  have hroll : setRollsOver k t = roll := by
    rw [setRollsOver, hkd]
    rfl
  have hclock : setClock (drawOrder Moment.all k) t k.drawn =
      deliver (drawOrder Moment.all k) (setMove s) (rolledOver roll (wasSet t k.drawn)) := by
    rw [setClock_eq, ← hroll]
    simp only [setMove, State.drawn_dck, hkd]
    rfl
  have hxd : (rolledOver roll (wasSet t k.drawn)).dck =
      { s.dck with depotTime := t, depotDivider := 0, running := true, lastChange := .set, lastChangeUptime := s.dck.uptime } := by
    rw [rolledOver_dck, ← hkd]
    rfl
  have hxs := rolledOver_slu roll (wasSet t k.drawn)
  have hxe := rolledOver_experm (x := wasSet t k.drawn) rfl roll
  have hxr := rolledOver_dock roll (wasSet t k.drawn)
  have hxq : (rolledOver roll (wasSet t k.drawn)).evq = s.evq := (rolledOver_evq ..).trans hkq
  have hxg : (rolledOver roll (wasSet t k.drawn)).grid = k.grid := rolledOver_grid ..
  have hxt : (rolledOver roll (wasSet t k.drawn)).tly = s.tly := (rolledOver_tly ..).trans (asked_tly s _)
  have hxw : (rolledOver roll (wasSet t k.drawn)).draws = s.draws + 1 :=
    (rolledOver_draws ..).trans (congrArg (· + 1) (asked_draws s _))
  generalize rolledOver roll (wasSet t k.drawn) = x at hclock hxd hxs hxe hxr hxq hxg hxt hxw
  have htrip : x.slu.trip = s.slu.trip := by
    rw [hxs]
    rfl
  have keeps := anyDelivery_keeps (setMove s) (drawOrder Moment.all k) x
  have hstate : (requestTimeSet t k).1 = deliver (drawOrder Moment.all k) (setMove s) x := by
    rw [requestTimeSet, if_neg hin, if_neg (by rw [hkq, hno]; simp), ← hclock]
  have hbody : (requestTimeSet t k).2.body = body := by
    rw [requestTimeSet, if_neg hin, if_neg (by rw [hkq, hno]; simp), hclock, hroll]
    simp only [keeps.dck, hxd, le32_eq]
    rfl
  have hforward : s.dck.running = false ∨ s.dck.depotTime < t → (setMove s).forward x.dck.depotTime = true := by
    simp [hxd, setMove, ClockMove.forward]
  refine ⟨_, hexec, ?_⟩
  rw [hbody, hstate]
  simp -zeta only [answering_dck, answering_slu, answering_dock, answering_evq, answering_rpt, answering_tly, answering_dnc, answering_alc,
    answering_draws]
  refine ⟨keeps.dck.trans hxd, answering_lastAnswer .., (deliver_draws ..).trans hxw, ?_, ?_, ?_, ?_, ?_, fun e => ?_, fun hmove => ?_,
    fun hmove => ?_, fun hhalf => ?_, fun hrun hle => ?_⟩
  · rw [keeps.slu]
    exact htrip
  · rw [keeps.slu, hxs]
    rfl
  · rw [keeps.slu, hxs]
    rfl
  · rw [keeps.slu]
    show x.slu.experm = (decide (s.slu.trip = .normal) && x.slu.tableValid)
    rw [hxe, expermCondition, htrip, hxd, Bool.and_true]
  · rw [keeps.slu, hxs]
    rfl
  · obtain ⟨hst, hv, -, hday⟩ := keeps.docks e
    rw [hst, hv, hday, hxr, show (wasSet t k.drawn).dock e = s.dock e from asked_dock s _ e]
    exact ⟨rfl, rfl, rfl⟩
  · have hf := hforward hmove
    have hlimit := deliver_override hperm hf
    have hwaiting := deliver_waiting hperm hf (by rw [hxd])
    obtain ⟨hstop, hstart⟩ := deliver_set_ahead rfl hf rfl hperm (by rw [hxq]; exact hno)
    rw [hxd] at hlimit hwaiting hstop hstart
    exact ⟨hstop, hstart, hlimit, hwaiting⟩
  · have hevents := deliver_set_events rfl (hforward hmove) rfl hperm (by rw [hxq]; exact hno)
    intro out left starts started expired list lost ends
    simp only [hxd, hxq, hxg, hxt] at hevents
    obtain ⟨hq, hresults, hstarted, hg⟩ := hevents
    exact ⟨hq, hresults, hstarted, answering_grid_congr hg _ _⟩
  · have hhour : (setMove s).entersHalfHour x.dck.depotTime = true := by
      rcases hhalf with hunset | hne
      · simp [ClockMove.entersHalfHour, setMove, hunset]
      · exact entersHalfHour_of_ne (by rw [hxd]; exact hne)
    rw [deliver_pass hperm hhour, hxd]
  · have hf : (setMove s).forward x.dck.depotTime = false := by simpa [hxd, setMove, ClockMove.forward, hrun] using hle
    obtain ⟨hevents, hslu⟩ := deliver_backward hf (drawOrder Moment.all k)
    simp only [eventPart, Prod.mk.injEq, hxq, hxg, hxt] at hevents
    obtain ⟨hq, hg, hr⟩ := hevents
    refine ⟨hq, ?_, hr, answering_grid_congr hg _ _⟩
    rw [hslu, hxs]
    rfl

end Sys2Proof.Dispatch
end

section
/-! The water-fill (R96, R97): a fill that does not reach the sum of the caps brings the docks to one level, with the odd tenths on top. -/

namespace Sys2Proof.Allocation

open Sys2Proof Sys2Proof.Machine Sys2Proof.RoutePlans

/-! ### The odd tenths (R97) -/

/-- A map that tells the positions below `m` from the others, as a map of each part. -/
theorem map_zipIdx_ite {α β : Type} (p q : α → β) (m : Nat) (l : List α) (n : Nat) :
    (l.zipIdx n).map (fun e => if e.2 < m then p e.1 else q e.1) = (l.take (m - n)).map p ++ (l.drop (m - n)).map q := by
  induction l generalizing n with
  | nil => simp
  | cons a l ih =>
    rw [List.zipIdx_cons, List.map_cons, ih]
    by_cases h : n < m
    · have hm : m - n = (m - (n + 1)) + 1 := by omega
      simp [hm, h]
    · have hm : m - n = 0 := by omega
      have hm' : m - (n + 1) = 0 := by omega
      simp [hm, hm', h]

/-- The docks of R97 that get the odd tenth, and those that do not. -/
theorem shareOut_eq (fair leftover : Nat) (l : List FillDock) : shareOut fair leftover l =
    ((sortBy FillDock.throughputLe l).take leftover).map (fun e => (e.dock, fair + 1)) ++
      ((sortBy FillDock.throughputLe l).drop leftover).map fun e => (e.dock, fair) := by
  rw [shareOut, ← Nat.sub_zero leftover, ← map_zipIdx_ite]
  refine List.map_congr_left fun e _ => ?_
  rw [Nat.sub_zero]
  split <;> rfl

/-! ### The two orders (R96, R97) -/

theorem capLe_iff (a b : FillDock) : a.capLe b = true ↔ a.cap < b.cap ∨ (a.cap = b.cap ∧ a.dock.val ≤ b.dock.val) := by
  simp [FillDock.capLe]

theorem throughputLe_iff (a b : FillDock) :
    a.throughputLe b = true ↔ a.throughput < b.throughput ∨ (a.throughput = b.throughput ∧ a.dock.val ≤ b.dock.val) := by
  simp [FillDock.throughputLe]

/-- Insertion by an order that is total and transitive sorts. -/
theorem sortBy_pairwise {α : Type} {le : α → α → Bool} (total : ∀ a b, le a b = true ∨ le b a = true)
    (trans : ∀ a b c, le a b = true → le b c = true → le a c = true) (l : List α) : (sortBy le l).Pairwise fun a b => le a b = true := by
  have : Std.Total fun a b => le a b = true := ⟨total⟩
  have : IsTrans α fun a b => le a b = true := ⟨trans⟩
  rw [sortBy_eq_insertionSort]
  exact List.pairwise_insertionSort _ _

theorem capLe_pairwise (l : List FillDock) : (sortBy FillDock.capLe l).Pairwise fun a b => a.cap ≤ b.cap := by
  refine (sortBy_pairwise (fun a b => ?_) (fun a b c => ?_) l).imp fun {a b} h => ?_
  · simp only [capLe_iff]
    omega
  · simp only [capLe_iff]
    omega
  · have := (capLe_iff a b).mp h
    omega

theorem throughputLe_pairwise (l : List FillDock) : (sortBy FillDock.throughputLe l).Pairwise fun a b => a.throughputLe b = true := by
  refine sortBy_pairwise (fun a b => ?_) (fun a b c => ?_) l
  · simp only [throughputLe_iff]
    omega
  · simp only [throughputLe_iff]
    omega

/-! ### The level of a fill (R96) -/

/-- What a fill of `l` comes to that does not reach the sum of the caps: the docks served in full, those with an odd tenth above the level
`fair`, and those at the level. -/
structure FillLevel (l : List FillDock) (amount : Nat) (shares : List (Dock × Nat)) (served up down : List FillDock) (fair : Nat) : Prop where
  docks : l.Perm (served ++ (up ++ down))
  shares_eq : shares = served.map (fun e => (e.dock, e.cap)) ++ (up.map (fun e => (e.dock, fair + 1)) ++ down.map fun e => (e.dock, fair))
  served_cap : ∀ e ∈ served, e.cap ≤ fair
  open_cap : ∀ e ∈ up ++ down, fair < e.cap
  odd_first : ∀ e ∈ up, ∀ f ∈ down, e.throughputLe f = true
  total : fillTotal shares = amount

/-- The share of each dock at a level that all of them can take (R96 step 3, R97). -/
theorem shareOut_level {l : List FillDock} {amount : Nat} (hl : l ≠ []) (hcap : ∀ e ∈ l, amount / l.length < e.cap) :
    ∃ up down, FillLevel l amount (shareOut (amount / l.length) (amount - amount / l.length * l.length) l) [] up down (amount / l.length) := by
  have hlt : amount - amount / l.length * l.length < l.length := by
    rw [← Nat.mod_eq_sub_div_mul]
    exact Nat.mod_lt _ (List.length_pos_of_ne_nil hl)
  have hle : amount / l.length * l.length ≤ amount := Nat.div_mul_le_self _ _
  have hperm : l.Perm (sortBy FillDock.throughputLe l) := (sortBy_perm _ l).symm
  rw [shareOut_eq]
  generalize amount / l.length = fair at *
  generalize hodd : amount - fair * l.length = odd at *
  have hsplit := List.take_append_drop odd (sortBy FillDock.throughputLe l)
  have hsorted := throughputLe_pairwise l
  have hlen := hperm.length_eq
  generalize sortBy FillDock.throughputLe l = k at *
  refine ⟨k.take odd, k.drop odd, by simpa [hsplit] using hperm, rfl, nofun, fun e he => hcap e ?_, fun e he f hf => ?_, ?_⟩
  · exact hperm.mem_iff.mpr (hsplit ▸ he)
  · rw [← hsplit, List.pairwise_append] at hsorted
    exact hsorted.2.2 e he f hf
  · have hup : min odd k.length = odd := by omega
    have hsum : odd * (fair + 1) + (k.length - odd) * fair = k.length * fair + odd := by
      obtain ⟨m, hm⟩ : ∃ m, k.length = odd + m := ⟨k.length - odd, by omega⟩
      rw [hm, Nat.add_sub_cancel_left]
      ring
    have hmap : ∀ (m : List FillDock) (c : Nat), ((m.map fun e => (e.dock, c)).map Prod.snd).sum = m.length * c := fun m c => by
      simp [Function.comp_def]
    rw [fillTotal, List.map_append, List.sum_append, hmap, hmap, List.length_take, List.length_drop, hup, hsum, Nat.mul_comm, ← hlen]
    omega

/-- Serving a dock that takes no more than its part does not lower the parts of the others. -/
theorem part_le {amount cap n : Nat} (hn : 0 < n) (hcap : cap ≤ amount / (n + 1)) : amount / (n + 1) ≤ (amount - cap) / n := by
  have := Nat.div_mul_le_self amount (n + 1)
  rw [Nat.le_div_iff_mul_le hn]
  rw [Nat.mul_succ] at this
  omega

/-- Step 3 of R96 finds a level, which is not below the even part of the amount. -/
theorem fillSorted_level (l : List FillDock) (amount : Nat) (hsorted : l.Pairwise fun a b => a.cap ≤ b.cap) (hlt : amount < capSum l) :
    ∃ served up down fair, FillLevel l amount (fillSorted l amount) served up down fair ∧ amount / l.length ≤ fair := by
  induction l generalizing amount with
  | nil => exact absurd hlt (by simp [capSum])
  | cons e l ih =>
    obtain ⟨hfirst, hrest⟩ := List.pairwise_cons.mp hsorted
    unfold fillSorted
    dsimp only
    split
    · next hcap =>
      have hle : amount / (l.length + 1) ≤ amount := Nat.div_le_self _ _
      have hlt' : amount - e.cap < capSum l := by
        simp only [capSum, List.map_cons, List.sum_cons] at hlt ⊢
        omega
      obtain ⟨served, up, down, fair, h, hfair⟩ := ih _ hrest hlt'
      have hne : 0 < l.length := List.length_pos_iff.mpr fun hl => by simp [hl, capSum] at hlt'
      have hpart : amount / (l.length + 1) ≤ fair := (part_le hne hcap).trans hfair
      refine ⟨e :: served, up, down, fair, ⟨h.docks.cons e, ?_, ?_, h.open_cap, h.odd_first, ?_⟩, hpart⟩
      · rw [h.shares_eq]
        rfl
      · exact List.forall_mem_cons.mpr ⟨hcap.trans hpart, h.served_cap⟩
      · have := h.total
        simp only [fillTotal, List.map_cons, List.sum_cons] at this ⊢
        omega
    · next hcap =>
      obtain ⟨up, down, h⟩ := shareOut_level (l := e :: l) (amount := amount) (by simp) fun f hf => by
        rcases List.mem_cons.mp hf with rfl | hf
        · simpa using hcap
        · exact (by simpa using hcap : _ < e.cap).trans_le (hfirst f hf)
      exact ⟨[], up, down, _, h, le_rfl⟩

theorem waterFill_full {l : List FillDock} {amount : Nat} (h : capSum l ≤ amount) : waterFill l amount = l.map fun e => (e.dock, e.cap) := if_pos h

/-- A fill that does not reach the sum of the caps finds a level (R96). -/
theorem waterFill_level {l : List FillDock} {amount : Nat} (h : amount < capSum l) :
    ∃ served up down fair, FillLevel l amount (waterFill l amount) served up down fair := by
  have hperm := sortBy_perm FillDock.capLe l
  have hsum : capSum (sortBy FillDock.capLe l) = capSum l := (hperm.map FillDock.cap).sum_eq
  obtain ⟨served, up, down, fair, hfill, -⟩ := fillSorted_level _ amount (capLe_pairwise l) (hsum ▸ h)
  rw [waterFill, if_neg (by omega)]
  exact ⟨served, up, down, fair, { hfill with docks := hperm.symm.trans hfill.docks }⟩

/-- The fill total is never above the amount. -/
theorem fillTotal_le (l : List FillDock) (amount : Nat) : fillTotal (waterFill l amount) ≤ amount := by
  by_cases h : capSum l ≤ amount
  · rw [waterFill_full h, fillTotal, List.map_map]
    exact h
  · obtain ⟨_, _, _, _, hfill⟩ := waterFill_level (Nat.lt_of_not_le h)
    exact hfill.total.le

/-- Each dock that takes part has one share. -/
theorem waterFill_docks_perm (l : List FillDock) (amount : Nat) : ((waterFill l amount).map Prod.fst).Perm (l.map FillDock.dock) := by
  by_cases h : capSum l ≤ amount
  · rw [waterFill_full h, List.map_map]
    exact .refl _
  · obtain ⟨served, up, down, fair, hfill⟩ := waterFill_level (Nat.lt_of_not_le h)
    refine .trans (.of_eq ?_) (hfill.docks.map FillDock.dock).symm
    rw [hfill.shares_eq]
    simp [Function.comp_def]

section
variable {l : List FillDock} {amount : Nat} (hl : (l.map FillDock.dock).Nodup) {x : Dock × Nat} (hx : x ∈ waterFill l amount)
  {e : FillDock} (he : e ∈ l) (hd : e.dock = x.1)
include hl hx he hd

theorem share_full (h : capSum l ≤ amount) : x.2 = e.cap := by
  rw [waterFill_full h] at hx
  obtain ⟨e', he', rfl⟩ := List.mem_map.mp hx
  rw [List.inj_on_of_nodup_map hl he he' hd]

/-- The share of a dock is its cap, the level and an odd tenth, or the level. -/
theorem FillLevel.share {served up down : List FillDock} {fair : Nat} (h : FillLevel l amount (waterFill l amount) served up down fair) :
    (e ∈ served ∧ x.2 = e.cap) ∨ (e ∈ up ∧ x.2 = fair + 1) ∨ (e ∈ down ∧ x.2 = fair) := by
  have same : ∀ e' ∈ served ++ (up ++ down), e'.dock = x.1 → e' = e := fun e' he' hd' =>
    List.inj_on_of_nodup_map hl (h.docks.mem_iff.mpr he') he (hd'.trans hd.symm)
  rw [h.shares_eq, List.mem_append, List.mem_append] at hx
  rcases hx with hx | hx | hx <;> obtain ⟨e', he', rfl⟩ := List.mem_map.mp hx
  · cases same e' (by simp [he']) rfl
    exact .inl ⟨he', rfl⟩
  · cases same e' (by simp [he']) rfl
    exact .inr (.inl ⟨he', rfl⟩)
  · cases same e' (by simp [he']) rfl
    exact .inr (.inr ⟨he', rfl⟩)

/-- No share is above its dock's cap. -/
theorem share_le_cap : x.2 ≤ e.cap := by
  by_cases h : capSum l ≤ amount
  · exact (share_full hl hx he hd h).le
  · obtain ⟨served, up, down, fair, hfill⟩ := waterFill_level (Nat.lt_of_not_le h)
    rcases hfill.share hl hx he hd with ⟨-, h2⟩ | ⟨hup, h2⟩ | ⟨hdown, h2⟩
    · exact h2.le
    · exact h2.trans_le (hfill.open_cap e (List.mem_append_left _ hup))
    · exact h2.trans_le (hfill.open_cap e (List.mem_append_right _ hdown)).le

/-- A share below its cap reaches the level, and is at it for a dock without an odd tenth alone. -/
theorem share_below_cap (h : x.2 < e.cap) : ∃ served up down fair, FillLevel l amount (waterFill l amount) served up down fair ∧
    fair ≤ x.2 ∧ (x.2 = fair → e ∈ down) := by
  by_cases hsum : capSum l ≤ amount
  · exact absurd (share_full hl hx he hd hsum) h.ne
  · obtain ⟨served, up, down, fair, hfill⟩ := waterFill_level (Nat.lt_of_not_le hsum)
    refine ⟨served, up, down, fair, hfill, ?_⟩
    rcases hfill.share hl hx he hd with ⟨-, h2⟩ | ⟨-, h2⟩ | ⟨hdown, h2⟩
    · exact absurd h2 h.ne
    · exact ⟨by omega, fun hc => absurd (h2.symm.trans hc) (by omega)⟩
    · exact ⟨h2.ge, fun _ => hdown⟩

end

section
variable {l : List FillDock} {amount : Nat} (hl : (l.map FillDock.dock).Nodup) {x y : Dock × Nat}
  (hx : x ∈ waterFill l amount) (hy : y ∈ waterFill l amount) {e f : FillDock} (he : e ∈ l) (hf : f ∈ l) (hex : e.dock = x.1) (hfy : f.dock = y.1)
include hl hx hy he hf hex hfy

/-- No share is more than one tenth above one that is below its cap (R96). -/
theorem share_even (h : x.2 < e.cap) : y.2 ≤ x.2 + 1 := by
  obtain ⟨served, up, down, fair, hfill, hlevel, -⟩ := share_below_cap hl hx he hex h
  rcases hfill.share hl hy hf hfy with ⟨hserved, h2⟩ | ⟨-, h2⟩ | ⟨-, h2⟩
  · have := hfill.served_cap f hserved
    omega
  · omega
  · omega

/-- A dock with the odd tenth comes before one without it by day throughput, then address (R97). -/
theorem odd_tenth_order (h : y.2 < f.cap) (hxy : x.2 = y.2 + 1) :
    e.throughput < f.throughput ∨ (e.throughput = f.throughput ∧ e.dock < f.dock) := by
  obtain ⟨served, up, down, fair, hfill, hlevel, hdown⟩ := share_below_cap hl hy hf hfy h
  have hne : e.dock.val ≠ f.dock.val := fun hc => by
    have hsame : x = y := List.inj_on_of_nodup_map ((waterFill_docks_perm l amount).nodup_iff.mpr hl) hx hy (by rw [← hex, Fin.ext hc, hfy])
    rw [hsame] at hxy
    omega
  rcases hfill.share hl hx he hex with ⟨hserved, h2⟩ | ⟨hup, h2⟩ | ⟨-, h2⟩
  · have := hfill.served_cap e hserved
    omega
  · have := (throughputLe_iff e f).mp (hfill.odd_first e hup f (hdown (by omega)))
    rw [Fin.lt_def]
    omega
  · omega

end

/-- Settles O31: from the level of the fill, with the served docks at or below it and the odd tenths by R97. -/
theorem waterFillSpreadsTheAmountUnderTheCaps : Obligations.WaterFillSpreadsTheAmountUnderTheCaps := by
  intro l amount hl
  refine ⟨fun h => waterFill_full h, fun h => ?_, waterFill_docks_perm l amount, fun x hx e he hd => share_le_cap hl hx he hd,
    fun x hx y hy e he hd h => ?_, fun x hx y hy e he f hf hex hfy h hxy => odd_tenth_order hl hx hy he hf hex hfy h hxy⟩
  · obtain ⟨_, _, _, _, hfill⟩ := waterFill_level h
    exact hfill.total
  · obtain ⟨f, hf, hfy⟩ := List.mem_map.mp (waterFill_docks l amount y hy)
    exact share_even hl hx hy he hf hd hfy h

end Sys2Proof.Allocation
end

section
/-! The docks of the fill, and the totals of a pass (R88, R90 to R98). -/

namespace Sys2Proof.Allocation

open Sys2Proof Sys2Proof.Machine Sys2Proof.RoutePlans

variable {s : State}

/-! ### The docks of the fill -/

section
variable (hok : s.DocksOk)
include hok

/-- The docks of the fill are docks with a cap, each with its own (R88, R95). -/
theorem fillingDocks_caps (ev : EventRecord) : ∃ test : Dock → Bool, (∀ d, test d = true → 0 < capOf s d) ∧
    fillingDocks s ev = (Dock.all.filter test).map fun d => fillDock s d (capOf s d) := by
  rw [fillingDocks, workAndRestDocks_eq hok, eligibleDocks_eq hok]
  split
  · exact ⟨_, fun d hd => of_decide_eq_true hd, rfl⟩
  · exact ⟨_, fun d hd => of_decide_eq_true (Bool.and_eq_true_iff.mp hd).1, rfl⟩

theorem fillingDocks_nodup (ev : EventRecord) : ((fillingDocks s ev).map FillDock.dock).Nodup := by
  obtain ⟨test, -, heq⟩ := fillingDocks_caps hok ev
  rw [heq, List.map_map]
  exact (List.map_id'' (fun _ => rfl) _).symm ▸ (List.nodup_finRange 40).filter test

theorem passShares_nodup : ((passShares s).map Prod.fst).Nodup := by
  unfold passShares
  split
  · exact (waterFill_docks_perm _ _).nodup_iff.mpr (fillingDocks_nodup hok _)
  · exact List.nodup_nil

/-- A share is within the cap of its dock, which has one (R96). -/
theorem passShares_cap {x : Dock × Nat} (hx : x ∈ passShares s) : 0 < capOf s x.1 ∧ x.2 ≤ capOf s x.1 := by
  unfold passShares at hx
  split at hx
  · next ev _ =>
    obtain ⟨e, he, hd⟩ := List.mem_map.mp (waterFill_docks _ _ x hx)
    have hle := share_le_cap (fillingDocks_nodup hok ev) hx he hd
    obtain ⟨test, htest, heq⟩ := fillingDocks_caps hok ev
    rw [heq] at he
    obtain ⟨d, hmem, rfl⟩ := List.mem_map.mp he
    rw [← hd]
    exact ⟨htest d (List.mem_filter.mp hmem).2, hle⟩
  · exact absurd hx List.not_mem_nil

/-- A cap is within what the record rates outward, for a BOUND dock whose vehicle holds more than its floor (R88). -/
theorem capOf_bounds {d : Dock} (h : 0 < capOf s d) :
    capOf s d ≤ (s.dock d).ratedExport ∧ passFloor s d < (s.dock d).stored ∧ (s.dock d).state = .bound := by
  unfold capOf at h ⊢
  split at h
  · next r p _ hbind =>
    obtain ⟨v, hfree, hentry⟩ := Option.bind_eq_some_iff.mp hbind
    obtain ⟨hb, hv, -⟩ := servedVehicle_eq_some.mp (freeVehicle_eq_some.mp hfree).2
    obtain ⟨-, rfl⟩ := mem_findPlan hentry
    split at h
    · exact absurd h (lt_irrefl 0)
    · next hx =>
      rw [if_neg hx, passFloor_eq s hok hv]
      refine ⟨min_le_left _ _, ?_, hb⟩
      by_contra hle
      simp [Nat.sub_eq_zero_of_le (Nat.le_of_not_lt hle)] at h
  · exact absurd h (lt_irrefl 0)

end

/-! ### Sums over the docks -/

/-- The sum of a count over all docks. -/
def sumAll (f : Dock → Nat) : Nat := sumOver (fun _ => true) f

theorem sumDocks_natCast (f : Dock → Nat) : sumDocks (fun d => (f d : Int)) = sumAll f := by
  rw [sumDocks, sumAll, sumOver, List.filter_true, Nat.cast_list_sum, List.map_map]
  rfl

theorem sumDocks_add (f g : Dock → Int) : sumDocks (fun d => f d + g d) = sumDocks f + sumDocks g := List.sum_map_add

/-- What goes out over all docks, and what goes in. -/
theorem sumDocks_parts (f : Dock → Int) : sumDocks f = (sumAll fun d => (f d).toNat) - sumAll fun d => (-f d).toNat := by
  rw [← sumDocks_natCast, ← sumDocks_natCast, eq_sub_iff_add_eq, ← sumDocks_add]
  exact congrArg sumDocks (funext fun d => by omega)

/-- What a list gives its docks, each named once, is what it gives all docks. -/
theorem sum_givenTo {l : List (Dock × Nat)} (hn : (l.map Prod.fst).Nodup) : (l.map Prod.snd).sum = sumAll (givenTo 0 l) := by
  have hvalues : l.map Prod.snd = (l.map Prod.fst).map (givenTo 0 l) := by
    rw [List.map_map]
    exact List.map_congr_left fun e he => (givenTo_of_mem hn he).symm
  rw [hvalues, sum_eq_sumOver hn (p := fun d => decide (d ∈ l.map Prod.fst)) (fun d => decide_eq_true_iff.symm) fun _ _ => rfl]
  exact sumOver_congr fun d hd => givenTo_of_notMem (by simpa using hd)

/-! ### The totals of a pass -/

section
variable (hok : s.DocksOk)
include hok

theorem grantOf_of_not_asker {d : Dock} (h : d ∉ askers s) : grantOf s d = 0 :=
  givenTo_of_notMem (by rwa [passGrants_docks, asks_eq hok, map_fst_pairs])

/-- A sum over the docks that ask, of a figure that is 0 where nothing is granted. -/
theorem sum_askers (f : Int → Nat) (h0 : f 0 = 0) : ((askers s).map fun d => f (grantOf s d)).sum = sumAll fun d => f (grantOf s d) := by
  rw [sum_eq_sumOver (askers_nodup hok) (p := fun d => decide (d ∈ askers s)) (fun d => decide_eq_true_iff.symm) fun _ _ => rfl]
  exact sumOver_congr fun d hd => by rw [grantOf_of_not_asker hok (by simpa using hd), h0]

/-- M_e is what the grants send out (R91). -/
theorem manualExport_grants : manualExport s = sumAll fun d => (grantOf s d).toNat := by
  have hleft := (passGrants_left hok).2
  rw [sum_askers hok Int.toNat rfl] at hleft
  rw [manualExport]
  omega

/-- U is what the grants take in (R92). -/
theorem passIntake_grants : passIntake s = sumAll fun d => (-grantOf s d).toNat := by
  have hleft := (passGrants_left hok).1
  rw [sum_askers hok (fun x => (-x).toNat) rfl] at hleft
  rw [passIntake]
  omega

theorem fillTotal_eq (hn : s.slu.trip = .normal) : fillTotal (passShares s) = sumAll fun d => ((runPass s).dock d).share := by
  rw [fillTotal, sum_givenTo (passShares_nodup hok)]
  refine congrArg sumAll (funext fun d => ?_)
  rw [runPass_share, passOutcome_normal hn]
  rfl

/-- The net commanded is fill total and manual outflow less the intake (R98). -/
theorem sumDocks_setpoint (hn : s.slu.trip = .normal) :
    sumDocks (fun d => ((runPass s).dock d).setpoint) = (fillTotal (passShares s) : Int) + manualExport s - passIntake s := by
  have hset : (fun d => ((runPass s).dock d).setpoint) = fun d => grantOf s d + (((runPass s).dock d).share : Int) :=
    funext (setpoint_eq hn)
  rw [hset, sumDocks_add, sumDocks_natCast, sumDocks_parts, ← fillTotal_eq hok hn, ← manualExport_grants hok, ← passIntake_grants hok]
  ring

/-- The intake commanded is U (R92). -/
theorem sumDocks_intake (hn : s.slu.trip = .normal) : sumDocks (fun d => max 0 (-((runPass s).dock d).setpoint)) = passIntake s := by
  rw [passIntake_eq hn hok]
  refine .trans (congrArg sumDocks (funext fun d => ?_)) (sumDocks_natCast (takenBy s))
  rw [takenBy]
  omega

end

theorem passIntake_le : passIntake s ≤ s.slu.intakeCeiling := (Nat.sub_le _ _).trans (min_le_left _ _)

/-- The fill does not bring the net commanded above the headroom, whatever is taken in (R93, R94). -/
theorem net_le_headroom : (fillTotal (passShares s) : Int) + manualExport s - passIntake s ≤ hNow s := by
  have hmanual : manualExport s ≤ hNow s := Nat.sub_le _ _
  unfold passShares
  split
  · next ev _ =>
    have hfill := fillTotal_le (fillingDocks s ev) (grossExport s ev)
    have htarget : netTarget s ev ≤ hNow s := (min_le_right _ _).trans (min_le_left _ _)
    rw [grossExport] at hfill ⊢
    omega
  · simp only [fillTotal, List.map_nil, List.sum_nil]
    omega

end Sys2Proof.Allocation
end

section
/-! Ceiling, headroom, ratings and floors of a pass (R93, R98, R101). -/

namespace Sys2Proof.Allocation

open Sys2Proof Sys2Proof.Machine Sys2Proof.RoutePlans

variable {s : State}

/-! ### Ratings and floors -/

/-- A grant lies between 0 and what is asked for (R91). -/
theorem granted_between (x : Int) (i e : Nat) : min x 0 ≤ granted x i e ∧ granted x i e ≤ max x 0 := by
  unfold granted
  split <;> omega

section
variable (hok : s.DocksOk)
include hok

/-- What a dock asks for lies within its ratings (R26, R92). -/
theorem askOf_rated (d : Dock) : -((s.dock d).ratedIntake : Int) ≤ askOf s d ∧ askOf s d ≤ (s.dock d).ratedExport := by
  unfold askOf
  cases h : manualValue s d with
  | none =>
    rw [Option.getD_none]
    omega
  | some x =>
    have hman : (s.dock d).steering = .manual := manualValue_steering h
    obtain ⟨y, hy⟩ := Option.isSome_iff_exists.mp ((hok.records d).manual_present.mpr hman)
    have hxy : y = x := by
      simp only [manualValue, if_pos hman, hy, Option.getD_some] at h
      obtain ⟨v, -, hv⟩ := Option.bind_eq_some_iff.mp h
      split at hv
      · cases hv
      · exact Option.some.inj hv
    exact hxy ▸ (hok.records d).manual_rated y hy

theorem grantOf_rated (d : Dock) : -((s.dock d).ratedIntake : Int) ≤ grantOf s d ∧ grantOf s d ≤ (s.dock d).ratedExport := by
  by_cases h : d ∈ askers s
  · obtain ⟨A, B, hAB⟩ := List.append_of_mem h
    have hask := askOf_rated hok d
    have hgrant := granted_between (askOf s d) (intakeCeiling s - (A.map fun e => (-grantOf s e).toNat).sum)
      (hNow s - (A.map fun e => (grantOf s e).toNat).sum)
    rw [← grantOf_asker hok hAB] at hgrant
    omega
  · rw [grantOf_of_not_asker hok h]
    omega

/-- A share above 0 is within the outward rating of a BOUND dock that asks for nothing and holds more than its floor (R88, R96). -/
theorem share_pos {d : Dock} (hn : s.slu.trip = .normal) (h : 0 < ((runPass s).dock d).share) :
    ((runPass s).dock d).share ≤ (s.dock d).ratedExport ∧ passFloor s d < (s.dock d).stored ∧ (s.dock d).state = .bound ∧ grantOf s d = 0 := by
  have hshare : ((runPass s).dock d).share = givenTo 0 (passShares s) d := by
    rw [runPass_share, passOutcome_normal hn]
    rfl
  have hmem : d ∈ (passShares s).map Prod.fst := by
    by_contra hc
    rw [hshare, givenTo_of_notMem hc] at h
    exact absurd h (lt_irrefl 0)
  obtain ⟨x, hx, rfl⟩ := List.mem_map.mp hmem
  obtain ⟨hpos, hle⟩ := passShares_cap hok hx
  obtain ⟨hrated, hfloor, hbound⟩ := capOf_bounds hok hpos
  rw [hshare, givenTo_of_mem (passShares_nodup hok) hx]
  refine ⟨hle.trans hrated, hfloor, hbound, grantOf_of_not_asker hok fun hc => ?_⟩
  rcases (mem_askers hok).mp hc with hm | hi
  · obtain ⟨y, hy⟩ := Option.isSome_iff_exists.mp hm
    rw [share_of_manual hok hy] at h
    exact absurd h (lt_irrefl 0)
  · rw [share_of_candidate hok hi] at h
    exact absurd h (lt_irrefl 0)

/-- Every setpoint of a pass lies within the ratings, and a share above 0 is the whole setpoint of a dock above its floor (R101). -/
theorem setpoint_rated (hn : s.slu.trip = .normal) (d : Dock) :
    -((s.dock d).ratedIntake : Int) ≤ ((runPass s).dock d).setpoint ∧ ((runPass s).dock d).setpoint ≤ (s.dock d).ratedExport ∧
    (0 < ((runPass s).dock d).share → ((runPass s).dock d).setpoint = ((runPass s).dock d).share ∧
      ((runPass s).dock d).floor < (s.dock d).stored ∧ (s.dock d).state = .bound) := by
  have hset := setpoint_eq hn d
  obtain ⟨hlow, hhigh⟩ := grantOf_rated hok d
  rw [runPass_floor]
  rcases Nat.eq_zero_or_pos ((runPass s).dock d).share with h0 | hpos
  · exact ⟨by omega, by omega, fun h => absurd h (by omega)⟩
  · obtain ⟨hrated, hfloor, hbound, hgrant⟩ := share_pos hok hn hpos
    exact ⟨by omega, by omega, fun _ => ⟨by omega, hfloor, hbound⟩⟩

end

/-! ### The pass -/

theorem sumDocks_zero : sumDocks (fun _ => 0) = 0 := sumDocks_natCast (fun _ => 0) |>.trans (by simp [sumAll, sumOver])

/-- Settles O29: in NORMAL from the totals of grants and fill; outside NORMAL nothing is commanded. -/
theorem passKeepsCeilingHeadroomRatingsAndFloors : Obligations.PassKeepsCeilingHeadroomRatingsAndFloors := by
  intro s hok t
  by_cases hn : s.slu.trip = .normal
  · have hintake := sumDocks_intake hok hn
    have hnet := sumDocks_setpoint hok hn
    have halc : t.alc = (normalOutcome s).alc s.dck.uptime := by rw [runPass_alc, passOutcome_normal hn]
    refine ⟨?_, fun _ => ?_, ?_, ?_, ?_, setpoint_rated hok hn⟩
    · rw [hintake]
      exact_mod_cast passIntake_le
    · rw [hnet]
      exact net_le_headroom
    · rw [hintake, halc]
      rfl
    · rw [hnet, halc]
      rfl
    · rw [halc]
      rfl
  · have hset : ∀ d, (t.dock d).setpoint = 0 := fun d => (runPass_trip_dock hn d).1
    have hshare : ∀ d, (t.dock d).share = 0 := fun d => (runPass_trip_dock hn d).2
    have halc := runPass_trip_alc hn
    simp only [hset, hshare, neg_zero, max_self, sumDocks_zero, lt_irrefl, false_implies, and_true]
    rw [halc]
    exact ⟨by omega, by omega, rfl, rfl, rfl, fun d => by omega⟩

end Sys2Proof.Allocation
end

section
/-! The trip line's assertion (R127, R173, R83, R131). -/

namespace Sys2Proof.Allocation

open Sys2Proof Sys2Proof.Machine Sys2Proof.RoutePlans

/-! ### A CEASE (R173) -/

/-- The value a frame in transmission carries; only a SETPOINT carries one. -/
def carried (x : Transmission) : Int := match x.frame with | .setpoint f => f.value | _ => 0

/-- Nothing queued commands a flow, and nothing in transmission that does is tried again. -/
structure NoFlow (n : Dnc) : Prop where
  queued : ∀ f ∈ n.queuedSetpoints, f.value = 0
  sending : ∀ x ∈ n.sending, carried x ≠ 0 → x.withdrawn = true

/-- What a CEASE leaves of a queued SETPOINT: nothing, or its dock and phase with the value 0. -/
theorem underCease_eq {f g : Setpoint} (h : f.underCease = some g) : g = { f with value := 0 } := by
  unfold Setpoint.underCease at h
  split_ifs at h with hpos hneg
  · exact (Option.some.inj h).symm
  · have h0 : f.value = 0 := by omega
    rw [← Option.some.inj h, ← h0]

theorem withdrawn_of_carried (x : Transmission) (h : carried x.supersedeCease.withdrawSetpoint ≠ 0) :
    x.supersedeCease.withdrawSetpoint.withdrawn = true := by
  rcases x with ⟨_ | f | _, w, b⟩
  · exact absurd rfl h
  · by_cases hf : f.value = 0
    · simp [Transmission.supersedeCease, Transmission.withdrawSetpoint, carried, hf] at h
    · simp [Transmission.supersedeCease, Transmission.withdrawSetpoint, hf]
  · exact absurd rfl h

section
variable {n : Dnc} (hn : n.net ≠ .off)
include hn

theorem enqueueCease_eq : n.enqueueCease = { n with
    queuedCease := true, queuedSetpoints := n.queuedSetpoints.filterMap Setpoint.underCease
    sending := n.sending.map fun t => t.supersedeCease.withdrawSetpoint } := if_neg hn

theorem enqueueCease_noFlow : NoFlow n.enqueueCease := by
  rw [enqueueCease_eq hn]
  refine ⟨fun g hg => ?_, fun y hy => ?_⟩
  · obtain ⟨f, -, hf⟩ := List.mem_filterMap.mp hg
    rw [underCease_eq hf]
  · obtain ⟨x, -, rfl⟩ := Option.map_eq_some_iff.mp hy
    exact withdrawn_of_carried x

end

theorem enqueueCease_off {n : Dnc} (hn : n.net = .off) : n.enqueueCease = n := if_pos hn

/-- A CEASE keeps the queue at one SETPOINT for each dock (R172). -/
theorem enqueueCease_pairwise {n : Dnc} (h : n.queuedSetpoints.Pairwise fun f g => f.dock ≠ g.dock) :
    n.enqueueCease.queuedSetpoints.Pairwise fun f g => f.dock ≠ g.dock := by
  by_cases hn : n.net = .off
  · rwa [enqueueCease_off hn]
  · rw [enqueueCease_eq hn]
    refine List.Pairwise.filterMap _ (fun f g hfg f' hf g' hg => ?_) h
    rw [underCease_eq hf, underCease_eq hg]
    exact hfg

/-- A CEASE leaves counts, net state and echo test. -/
theorem enqueueCease_kept (n : Dnc) : n.enqueueCease.tec = n.tec ∧ n.enqueueCease.recCount = n.recCount ∧
    n.enqueueCease.queuedEcho = n.queuedEcho ∧ n.enqueueCease.echo = n.echo := by
  by_cases hn : n.net = .off
  · rw [enqueueCease_off hn]
    exact ⟨rfl, rfl, rfl, rfl⟩
  · rw [enqueueCease_eq hn]
    exact ⟨rfl, rfl, rfl, rfl⟩

/-- In NET-OFF a sound Dock Net holds no frame (R170). -/
theorem off_holds_nothing {s : State} (h : s.NetOk) (hn : s.dnc.net = .off) : s.dnc.queuedSetpoints = [] ∧ s.dnc.sending = none := by
  obtain ⟨hq, hs⟩ := h.off_empty hn
  refine ⟨List.length_eq_zero_iff.mp ?_, hs⟩
  unfold Dnc.framesQueued at hq
  omega

/-! ### A pass outside NORMAL (R83, R102) -/

theorem marked_kept (m : Dock → Bool) (x : Transmission) : (marked m x).frame = x.frame ∧ (marked m x).withdrawn = x.withdrawn := by
  rcases x with ⟨_ | _ | _, w, b⟩ <;> exact ⟨rfl, rfl⟩

section
variable {s : State} (h1 : s.dnc.queuedSetpoints.Pairwise fun f g => f.dock ≠ g.dock)
include h1

/-- A SETPOINT queued after a pass carries its dock's setpoint, or was queued before. -/
theorem mem_queued_runPass {f : Setpoint} (hf : f ∈ (runPass s).dnc.queuedSetpoints) :
    (s.dnc.net ≠ .off ∧ f.value = ((runPass s).dock f.dock).setpoint) ∨ f ∈ s.dnc.queuedSetpoints := by
  have hmem : f ∈ queuedFor f.dock (runPass s) := List.mem_filter.mpr ⟨hf, decide_eq_true rfl⟩
  rw [runPass_queued s h1] at hmem
  split at hmem
  · next hc =>
    refine .inl ⟨hc.1, ?_⟩
    rw [List.mem_singleton.mp hmem]
  · exact .inr (List.mem_filter.mp hmem).1

/-- A pass outside NORMAL starts no flow. -/
theorem runPass_noFlow (ht : s.slu.trip ≠ .normal) (h : NoFlow s.dnc) : NoFlow (runPass s).dnc := by
  refine ⟨fun f hf => ?_, fun y hy => ?_⟩
  · rcases mem_queued_runPass h1 hf with ⟨-, hvalue⟩ | hold
    · rw [hvalue, (runPass_trip_dock ht f.dock).1]
    · exact h.queued f hold
  · rw [runPass_sending] at hy
    obtain ⟨x, hx, rfl⟩ := Option.map_eq_some_iff.mp hy
    obtain ⟨hframe, hwithdrawn⟩ := marked_kept (fun d => decide (s.dnc.net ≠ .off) && (s.dock d).getsSetpoint) x
    rw [carried, hframe, hwithdrawn]
    exact h.sending x hx

end

/-- In NET-OFF a pass changes of the Dock Net the phase bits alone. -/
theorem runPass_dnc_off {s : State} (hq : s.dnc.queuedSetpoints = []) (hs : s.dnc.sending = none) (hn : s.dnc.net = .off) :
    (runPass s).dnc = { s.dnc with phase := (runPass s).dnc.phase } := by
  have hnone : (runPass s).dnc.queuedSetpoints = [] := List.eq_nil_iff_forall_not_mem.mpr fun f hf => by
    rcases mem_queued_runPass (by rw [hq]; exact .nil) hf with ⟨hc, -⟩ | hold
    · exact hc hn
    · exact List.not_mem_nil (hq ▸ hold)
  refine (runPass_dnc_full s).trans ?_
  rw [withPassFields, hnone, hs, ← hq, Option.map_none, ← hs]

/-- A pass leaves of the Dock Net the queued CEASE and ECHO, the counts and the echo test. -/
theorem runPass_dnc_kept (s : State) : (runPass s).dnc.queuedCease = s.dnc.queuedCease ∧ (runPass s).dnc.tec = s.dnc.tec ∧
    (runPass s).dnc.recCount = s.dnc.recCount ∧ (runPass s).dnc.queuedEcho = s.dnc.queuedEcho ∧ (runPass s).dnc.echo = s.dnc.echo := by
  have h := runPass_dnc s s.dnc.phase [] none
  simp only [withPassFields, Dnc.mk.injEq] at h
  simp [h]

/-- A pass leaves a record's state, vehicle and manual value. -/
theorem runPass_record_kept (s : State) (d : Dock) : ((runPass s).dock d).state = (s.dock d).state ∧
    ((runPass s).dock d).vehicle = (s.dock d).vehicle ∧ ((runPass s).dock d).manual = (s.dock d).manual := by
  have h := runPass_record s d
  exact ⟨(congrArg DockRecord.state h :), (congrArg DockRecord.vehicle h :), (congrArg DockRecord.manual h :)⟩

theorem runPass_trip_fleet {s : State} (h : s.slu.trip ≠ .normal) : (runPass s).fleet = s.fleet := by
  have hhand : (passOutcome s).handOver = [] := by rw [passOutcome_trip h]; rfl
  rw [runPass_fleet, hhand, applyShortBand_nil]

/-! ### The assertion (R127) -/

/-- The Site Limit Unit as an assertion leaves it before it counts the trip (R127, R132). -/
def alarmed (u : Slu) : Slu := { u with trip := .tripped, lineAsserted := true, holdoffTimer := none, experm := false }

/-- The state the trip pass runs in. -/
def ceased (s : State) : State := { s with slu := alarmed s.slu, dnc := s.dnc.enqueueCease }

/-- The notice that tells of an assertion (R131). -/
def assertionNotice (s : State) : Notice :=
  .trip .asserted .tripped (min 65535 (s.slu.tripCount + 1)) s.slu.tripSeconds none s.dck.uptime (if s.dck.running then s.dck.depotTime else 0)

/-- A state with another Site Limit Unit. -/
def withSlu (u : Slu) (t : State) : State := { t with slu := u }

section
variable (u : Slu) (t : State)

@[simp] theorem withSlu_slu : (withSlu u t).slu = u := rfl
@[simp] theorem withSlu_rpt : (withSlu u t).rpt = t.rpt := rfl
@[simp] theorem withSlu_evq : (withSlu u t).evq = t.evq := rfl
@[simp] theorem withSlu_alc : (withSlu u t).alc = t.alc := rfl
@[simp] theorem withSlu_rot : (withSlu u t).rot = t.rot := rfl
@[simp] theorem withSlu_dck : (withSlu u t).dck = t.dck := rfl
@[simp] theorem withSlu_dnc : (withSlu u t).dnc = t.dnc := rfl
@[simp] theorem withSlu_grid : (withSlu u t).grid = t.grid := rfl
@[simp] theorem withSlu_fleet : (withSlu u t).fleet = t.fleet := rfl
@[simp] theorem withSlu_dock (d : Dock) : (withSlu u t).dock d = t.dock d := rfl

end

/-- The state after the trip pass, with the trip counted. -/
def stopped (s : State) : State := withSlu { alarmed s.slu with tripCount := min 65535 (s.slu.tripCount + 1) } (runPass (ceased s))

/-- The count and the notice that end an assertion (R127, R131). -/
theorem raiseBoth_counted {s t : State} (hslu : t.slu = alarmed s.slu) (hdck : t.dck = s.dck) :
    (let u := { t with slu.tripCount := satAdd 65535 t.slu.tripCount 1 }
    raiseBoth (tripNotice .asserted u) u) =
    raiseBoth (assertionNotice s) (withSlu { alarmed s.slu with tripCount := min 65535 (s.slu.tripCount + 1) } t) := by
  simp only [tripNotice, hslu, hdck]
  rw [assertionNotice, ← hdck]
  rfl

theorem ceased_eq (s : State) :
    (settleExperm { s with slu.trip := .tripped, slu.lineAsserted := true, slu.holdoffTimer := none }).mapDnc Dnc.enqueueCease = ceased s := rfl

/-- An assertion is a CEASE, a trip pass, a count and a notice. -/
theorem exec_tripAssertion {s : State} (h : s.slu.trip ≠ .tripped) :
    exec .tripAssertion s = .next (raiseBoth (assertionNotice s) (stopped s)) := by
  refine congrArg Host.Outcome.next ?_
  simp only [assertTrip, if_neg h, ceased_eq]
  exact raiseBoth_counted (t := runPass (ceased s)) (runPass_slu _) (runPass_dck _)

section
variable (s : State)

theorem ceased_tripped : (ceased s).slu.trip ≠ .normal := nofun

theorem stopped_dnc : (stopped s).dnc = (runPass (ceased s)).dnc := withSlu_dnc _ _

/-- The trip pass writes 0 into every record, which keeps the rest (R83). -/
theorem stopped_dock (d : Dock) : ((stopped s).dock d).setpoint = 0 ∧ ((stopped s).dock d).share = 0 ∧
    ((stopped s).dock d).state = (s.dock d).state ∧ ((stopped s).dock d).vehicle = (s.dock d).vehicle ∧
    ((stopped s).dock d).manual = (s.dock d).manual := by
  obtain ⟨hset, hshare⟩ := runPass_trip_dock (ceased_tripped s) d
  rw [stopped, withSlu_dock]
  exact ⟨hset, hshare, runPass_record_kept (ceased s) d⟩

/-- The totals the Allocator holds after the trip pass (R83). -/
theorem stopped_alc : (stopped s).alc.previousNet = 0 ∧ (stopped s).alc.previousIntake = 0 ∧
    (stopped s).alc.previousPass = s.dck.uptime ∧ (stopped s).alc.lastYield = false := by
  rw [stopped, withSlu_alc, runPass_trip_alc (ceased_tripped s)]
  exact ⟨rfl, rfl, rfl, rfl⟩

/-- What an assertion leaves of the other blocks. -/
theorem stopped_rest : (stopped s).grid = s.grid ∧ (stopped s).fleet = s.fleet ∧ (stopped s).evq = s.evq ∧ (stopped s).rpt = s.rpt ∧
    (stopped s).rot = s.rot ∧ (stopped s).dck = s.dck := by
  have ht := ceased_tripped s
  simp only [stopped, withSlu_grid, withSlu_fleet, withSlu_evq, withSlu_rpt, withSlu_rot, withSlu_dck, runPass_grid, runPass_trip_fleet ht,
    runPass_evq, runPass_trip_rpt ht, runPass_trip_rot ht, runPass_dck]
  exact ⟨rfl, rfl, rfl, rfl, rfl, rfl⟩

variable {s}

theorem stopped_cease (hn : s.dnc.net ≠ .off) : (stopped s).dnc.queuedCease = true := by
  obtain ⟨hcease, -⟩ := runPass_dnc_kept (ceased s)
  rw [stopped_dnc, hcease]
  exact congrArg Dnc.queuedCease (enqueueCease_eq hn)

theorem stopped_dnc_kept : (stopped s).dnc.tec = s.dnc.tec ∧ (stopped s).dnc.recCount = s.dnc.recCount ∧
    (stopped s).dnc.queuedEcho = s.dnc.queuedEcho ∧ (stopped s).dnc.echo = s.dnc.echo := by
  obtain ⟨-, htec, hrec, hqueued, hecho⟩ := runPass_dnc_kept (ceased s)
  rw [stopped_dnc, htec, hrec, hqueued, hecho]
  exact enqueueCease_kept s.dnc

variable (h : s.NetOk)
include h

theorem stopped_noFlow : NoFlow (stopped s).dnc := by
  rw [stopped_dnc]
  refine runPass_noFlow (enqueueCease_pairwise h.one_setpoint) (ceased_tripped s) ?_
  change NoFlow s.dnc.enqueueCease
  by_cases hn : s.dnc.net = .off
  · obtain ⟨hq, hs⟩ := off_holds_nothing h hn
    rw [enqueueCease_off hn]
    exact ⟨by simp [hq], by simp [hs]⟩
  · exact enqueueCease_noFlow hn

/-- In NET-OFF an assertion changes of the Dock Net the phase bits alone. -/
theorem stopped_off (hn : s.dnc.net = .off) : (stopped s).dnc = { s.dnc with phase := (stopped s).dnc.phase } := by
  obtain ⟨hq, hs⟩ := off_holds_nothing h hn
  have hdnc : (ceased s).dnc = s.dnc := enqueueCease_off hn
  have hpass := runPass_dnc_off (s := ceased s) (by rw [hdnc, hq]) (by rw [hdnc, hs]) (by rw [hdnc, hn])
  rwa [hdnc, ← stopped_dnc] at hpass

end

/-- Settles O32: the CEASE leaves nothing queued that commands a flow, and the trip pass adds nothing. -/
theorem tripAssertionStopsEveryFlow : Obligations.TripAssertionStopsEveryFlow := by
  intro s ht hok
  obtain ⟨hnet, hintake, hpass, hyield⟩ := stopped_alc s
  obtain ⟨htec, hrec, hqueued, hecho⟩ := stopped_dnc_kept (s := s)
  obtain ⟨hgrid, hfleet, hevq, hrpt, hrot, hdck⟩ := stopped_rest s
  have hflow := stopped_noFlow hok
  refine ⟨_, exec_tripAssertion ht, rfl, ?_⟩
  simp only [raiseBoth_dock, raiseBoth_alc, raiseBoth_dnc, raiseBoth_grid, raiseBoth_fleet, raiseBoth_evq, raiseBoth_rpt, raiseBoth_rot,
    raiseBoth_dck]
  exact ⟨stopped_dock s, hnet, hintake, hpass, hyield, stopped_cease, hflow.queued, hflow.sending, stopped_off hok, htec, hrec, hqueued, hecho,
    congrArg (Port.raise _) hgrid, congrArg (Port.raise _) hfleet, hevq, hrpt, hrot, hdck⟩

end Sys2Proof.Allocation
end

section
/-! The Rotation Unit under its timers (R109 to R111) and under ROTATION SET (R113, R114). -/

namespace Sys2Proof.RestRotation

open Sys2Proof Sys2Proof.Machine Sys2Proof.RoutePlans

/-! ### The expiries of the A and the B timer (R109 to R111, R155) -/

/-- A running timer is due from its expiry on for half the count of uptime (R155, log 15). -/
theorem timerDue_some {u e : Nat} : timerDue u (some e) = true ↔ (u + 4294967296 - e) % 4294967296 < 2147483648 := decide_eq_true_iff

section
variable {r : Rot} (u : Nat)

/-- Without a pending setting the A timer takes the rest at the cursor (R109). -/
theorem expireA_of_no_setting (h : r.pendingSetting = none) : r.expireA u = r.takeRest u := by
  simp only [Rot.expireA, h]

variable {q : RotSetting} (h : r.pendingSetting = some q)
include h

theorem takeUp_of_setting : r.takeUp = { r with list := q.list, yieldOn := q.yieldOn, pendingSetting := none } := by
  simp only [Rot.takeUp, h]

/-- A pending setting with an empty list is taken up and turns the rotation OFF (R110). -/
theorem expireA_of_empty_setting (hl : q.list = []) : r.expireA u =
    { r with
      list := [], yieldOn := q.yieldOn, pendingSetting := none, cursor := 0, state := .off, aTimer := none, bTimer := none } := by
  simp only [Rot.expireA, takeUp_of_setting h, h, hl, if_true]

/-- Any other pending setting is taken up and rests at its head (R110). -/
theorem expireA_of_setting (hl : q.list ≠ []) : r.expireA u =
    Rot.takeRest u { r with list := q.list, yieldOn := q.yieldOn, pendingSetting := none, cursor := 0 } := by
  simp only [Rot.expireA, takeUp_of_setting h, h, if_neg hl]

end

section
variable {s : State} {e : Nat} (hdue : (s.dck.uptime + 4294967296 - e) % 4294967296 < 2147483648)
include hdue

/-- The A timer, due in WORK, expires and runs a pass. -/
theorem exec_intervalAExpiry (hstate : s.rot.state = .work) (htimer : s.rot.aTimer = some e) :
    exec .intervalAExpiry s = .next (runPass { s with rot := s.rot.expireA s.dck.uptime }) := by
  have h : s.rot.aDue s.dck.uptime = true := by rw [Rot.aDue, hstate, htimer, timerDue_some.mpr hdue]; rfl
  exact congrArg Host.Outcome.next (if_pos h)

/-- The B timer, due in a rest, expires and runs a pass. -/
theorem exec_intervalBExpiry {x : RestEntry} (hstate : s.rot.state = .rest x) (htimer : s.rot.bTimer = some e) :
    exec .intervalBExpiry s = .next (runPass { s with rot := s.rot.expireB s.dck.uptime }) := by
  have h : s.rot.bDue s.dck.uptime = true := by rw [Rot.bDue, hstate, htimer]; exact timerDue_some.mpr hdue
  exact congrArg Host.Outcome.next (if_pos h)

end

/-- Settles O42: each timer that is due expires, the A timer by its pending setting. -/
theorem rotationTimersChangeTheRest : Obligations.RotationTimersChangeTheRest := by
  intro s u rests
  refine ⟨fun hwork e htimer hdue => ?_, fun _ _ e htimer hdue hrest => exec_intervalBExpiry hdue hrest htimer⟩
  rw [exec_intervalAExpiry hdue hwork htimer]
  cases hset : s.rot.pendingSetting with
  | none =>
    rw [expireA_of_no_setting _ hset]
    rfl
  | some q =>
    dsimp only
    split
    · next hl => rw [expireA_of_empty_setting _ hset hl]
    · next hl =>
      rw [expireA_of_setting _ hset hl]
      rfl

/-! ### ROTATION SET (R113, R114) -/

/-- The rest entry a byte of a ROTATION SET stands for: a group below 4, else NONE (R113). -/
def groupOrNone (v : Nat) : RestEntry := if h : v < 4 then some ⟨v, h⟩ else none

theorem restEntryOf_eq_none {v : Nat} (h : 4 ≤ v ∧ v ≠ 255) : restEntryOf v = none := by
  rw [restEntryOf, dif_neg (by omega), if_neg h.2]

theorem restEntryOf_eq_some {v : Nat} (h : ¬(4 ≤ v ∧ v ≠ 255)) : restEntryOf v = some (groupOrNone v) := by
  unfold restEntryOf groupOrNone
  split
  · rfl
  · exact if_pos (by omega)

/-- One entry that stands for nothing makes the list stand for nothing. -/
theorem mapM_restEntryOf_eq_none {entries : List Nat} (h : ∃ v ∈ entries, 4 ≤ v ∧ v ≠ 255) : entries.mapM restEntryOf = none := by
  induction entries with
  | nil => simp at h
  | cons a l ih =>
    simp only [List.mem_cons, exists_eq_or_imp] at h
    rcases h with ha | hl
    · simp [List.mapM_cons, restEntryOf_eq_none ha]
    · simp [List.mapM_cons, ih hl]

/-- With no such entry the list is read entry by entry. -/
theorem mapM_restEntryOf_eq_some {entries : List Nat} (h : ¬∃ v ∈ entries, 4 ≤ v ∧ v ≠ 255) :
    entries.mapM restEntryOf = some (entries.map groupOrNone) := by
  induction entries with
  | nil => rfl
  | cons a l ih =>
    simp only [List.mem_cons, exists_eq_or_imp, not_or] at h
    obtain ⟨ha, hl⟩ := h
    simp [List.mapM_cons, restEntryOf_eq_some ha, ih hl]

section
variable (yieldOn : Bool) {entries : List Nat} (s : State)

/-- The two refusals of a ROTATION SET (R113). -/
theorem requestRotationSet_refused (h : 16 < entries.length ∨ ∃ v ∈ entries, 4 ≤ v ∧ v ≠ 255) :
    requestRotationSet yieldOn entries s = refuse .badLength s := by
  unfold requestRotationSet
  split
  · rfl
  · next hlen => rw [mapM_restEntryOf_eq_none (h.resolve_left hlen)]

/-- A ROTATION SET that is not refused is stored while an event is ACTIVE, and taken at once otherwise (R113, R114). -/
theorem requestRotationSet_accepted (h : ¬(16 < entries.length ∨ ∃ v ∈ entries, 4 ≤ v ∧ v ≠ 255)) :
    requestRotationSet yieldOn entries s =
      if holdsActive s.evq = true then
        ({ s with rot.pendingSetting := some { list := entries.map groupOrNone, yieldOn := yieldOn } }, .done [1])
      else ({ s with rot := { s.rot with list := entries.map groupOrNone, yieldOn := yieldOn, cursor := 0 } }, .done [0]) := by
  obtain ⟨hlen, hentries⟩ := not_or.mp h
  rw [requestRotationSet, if_neg hlen, mapM_restEntryOf_eq_some hentries]
  rfl

@[simp] theorem asked_rot (c : Instr) : (s.asked c).rot = s.rot := by
  unfold State.asked State.holdingRequest
  split <;> simp

end

/-- Settles O57: the row is refused, or its owner stores the setting or takes it by the queue alone. -/
theorem rotationSetIsTakenOrPending : Obligations.RotationSetIsTakenOrPending := by
  intro yieldOn entries s list
  rw [exec_row (c := .rotationSet yieldOn entries) (l := .fleet) (q := .rotationSet yieldOn entries) s rfl, runRequest]
  split
  · next hbad =>
    rw [requestRotationSet_refused _ _ hbad]
    rfl
  next hgood =>
  rw [requestRotationSet_accepted _ _ hgood, asked_evq, asked_rot, holdsActive]
  split <;> rfl

end Sys2Proof.RestRotation
end

section
/-! The Dock Net Controller under its own operations (R162 to R178): counts and net state, queue, echo test, and no flow outside NORMAL. -/

namespace Sys2Proof.SiteLimits

open Sys2Proof Sys2Proof.Machine Sys2Proof.RoutePlans Sys2Proof.Allocation

/-! ### What a sound Dock Net is (R162, R169, R170, R172, R176, R177) -/

/-- The net state is the one the counts give, and the counts are within their ranges (R162, R169). -/
structure CountsIn (net : NetState) (tec recCount foreign : Nat) : Prop where
  state : net = netStateOf tec recCount
  tec_range : tec ≤ 263
  rec_range : recCount ≤ 255
  foreign_range : foreign ≤ 255

/-- One SETPOINT for each dock is queued (R172), and in NET-OFF no frame (R170). -/
structure QueueIn (net : NetState) (cease : Bool) (setpoints : List Setpoint) (echo : Option EchoFrame) : Prop where
  one_setpoint : setpoints.Pairwise fun f g => f.dock ≠ g.dock
  off_empty : net = .off → cease = false ∧ setpoints = [] ∧ echo = none

/-- The frame in transmission is an ECHO of the test, not withdrawn (R177). -/
def CarriesEcho (x : Transmission) : Prop := x.withdrawn = false ∧ ∃ e, x.frame = .echo e

/-- An echo test runs in NET-ACTIVE alone, with one ECHO queued, in transmission or waited for (R169, R176, R177). -/
structure EchoIn (net : NetState) (test : EchoTest) (frame : Option EchoFrame) (sending : Option Transmission) : Prop where
  active : test.state = .running → net = .active
  wait : test.wait.isSome = true → test.state = .running
  queued : frame.isSome = true → test.state = .running ∧ test.wait = none
  sent : ∀ x ∈ sending, CarriesEcho x → test.state = .running ∧ test.wait = none ∧ frame = none

/-- The counts and the net state of a Dock Net Controller are sound. -/
def CountsSound (n : Dnc) : Prop := CountsIn n.net n.tec n.recCount n.foreign

/-- Its queue is sound. -/
def QueueSound (n : Dnc) : Prop := QueueIn n.net n.queuedCease n.queuedSetpoints n.queuedEcho

/-- Its echo test is sound. -/
def EchoSound (n : Dnc) : Prop := EchoIn n.net n.echo n.queuedEcho n.sending

/-- The Dock Net Controller is sound. -/
structure NetSound (n : Dnc) : Prop where
  counts : CountsSound n
  queue : QueueSound n
  echo : EchoSound n
  off_idle : n.net = .off → n.sending = none

theorem netStateOf_eq_active {t r : Nat} : netStateOf t r = .active ↔ t < 128 ∧ r < 128 := by
  unfold netStateOf
  split_ifs <;> simp <;> omega

theorem netStateOf_eq_passive {t r : Nat} : netStateOf t r = .passive ↔ (128 ≤ t ∨ 128 ≤ r) ∧ t ≤ 255 := by
  unfold netStateOf
  split_ifs <;> simp <;> omega

theorem netStateOf_eq_off {t r : Nat} : netStateOf t r = .off ↔ 255 < t := by
  unfold netStateOf
  split_ifs <;> simp <;> omega

theorem framesQueued_eq_zero {n : Dnc} :
    n.framesQueued = 0 ↔ n.queuedCease = false ∧ n.queuedSetpoints = [] ∧ n.queuedEcho = none := by
  simp only [Dnc.framesQueued, Nat.add_eq_zero_iff, List.length_eq_zero_iff, Bool.toNat_eq_zero, Option.isSome_eq_false_iff,
    Option.isNone_iff_eq_none, and_assoc]

theorem netOk_iff {s : State} : s.NetOk ↔ NetSound s.dnc := by
  constructor
  · intro h
    have hnet : s.dnc.net = netStateOf s.dnc.tec s.dnc.recCount ∧ s.dnc.tec ≤ 263 := by
      cases hn : s.dnc.net with
      | active =>
        have hc := h.state_active hn
        exact ⟨(netStateOf_eq_active.mpr hc).symm, by omega⟩
      | passive =>
        have hc := h.state_passive hn
        exact ⟨(netStateOf_eq_passive.mpr hc).symm, by omega⟩
      | off =>
        have hc := h.state_off hn
        exact ⟨(netStateOf_eq_off.mpr hc.1).symm, hc.2⟩
    refine ⟨⟨hnet.1, hnet.2, h.rec_range, h.foreign_range⟩,
      ⟨h.one_setpoint, fun hn => framesQueued_eq_zero.mp (h.off_empty hn).1⟩,
      ⟨h.echo_active, h.echo_wait, h.echo_queued, fun x hx hc => h.echo_sent x hx hc.1 ?_⟩, fun hn => (h.off_empty hn).2⟩
    obtain ⟨e, he⟩ := hc.2
    rw [he]
  · intro h
    have hnet := h.counts.state
    refine ⟨fun hn => netStateOf_eq_active.mp (hnet ▸ hn), fun hn => netStateOf_eq_passive.mp (hnet ▸ hn),
      fun hn => ⟨netStateOf_eq_off.mp (hnet ▸ hn), h.counts.tec_range⟩,
      h.counts.rec_range, h.counts.foreign_range, h.queue.one_setpoint,
      fun hn => ⟨framesQueued_eq_zero.mpr (h.queue.off_empty hn), h.off_idle hn⟩, h.echo.active, h.echo.wait, h.echo.queued,
      fun x hx hw hf => h.echo.sent x hx ⟨hw, ?_⟩⟩
    cases he : x.frame with
    | echo e => exact ⟨e, rfl⟩
    | cease => simp [he] at hf
    | setpoint f => simp [he] at hf

theorem tripQuiet_iff {s : State} : s.TripQuiet ↔ (s.slu.trip ≠ .normal → NoFlow s.dnc) := by
  refine forall_congr' fun _ =>
    ⟨fun h => ⟨h.1, fun x hx hc => h.2 x hx ?_⟩, fun h => ⟨h.queued, fun x hx hc => h.sending x hx ?_⟩⟩ <;>
    (rcases x with ⟨_ | f | _, w, b⟩ <;> exact hc)

/-- From `n` to `m` the Dock Net stays sound, and no flow begins. -/
structure NetKept (n m : Dnc) : Prop where
  sound : NetSound n → NetSound m
  noFlow : NetSound n → NoFlow n → NoFlow m

variable {n : Dnc}

theorem NetKept.refl (n : Dnc) : NetKept n n := ⟨id, fun _ => id⟩

theorem NetKept.trans {m k : Dnc} (h : NetKept n m) (g : NetKept m k) : NetKept n k :=
  ⟨g.sound ∘ h.sound, fun hn hf => g.noFlow (h.sound hn) (h.noFlow hn hf)⟩

/-- What is kept may rest on what the Dock Net was. -/
theorem NetKept.of_sound {m : Dnc} (h : NetSound n → NetKept n m) : NetKept n m :=
  ⟨fun hn => (h hn).sound hn, fun hn => (h hn).noFlow hn⟩

/-! ### The end of an echo test (R177) -/

theorem abortEcho_of_not_running (h : n.echo.state ≠ .running) : n.abortEcho = n := if_neg h

theorem abortEcho_of_running (h : n.echo.state = .running) : n.abortEcho = { n with
    echo := { n.echo with state := .aborted, wait := none }, queuedEcho := none
    sending := n.sending.map Transmission.withdrawEcho } := if_pos h

theorem carried_withdrawEcho (x : Transmission) : carried x.withdrawEcho = carried x := by
  rcases x with ⟨_ | _ | _, w, b⟩ <;> rfl

theorem withdrawn_withdrawEcho {x : Transmission} (h : x.withdrawn = true) : x.withdrawEcho.withdrawn = true := by
  rcases x with ⟨_ | _ | _, w, b⟩
  · exact h
  · exact h
  · rfl

/-- A withdrawn ECHO is none of the test's. -/
theorem not_carriesEcho_withdrawEcho (x : Transmission) : ¬CarriesEcho x.withdrawEcho := by
  rcases x with ⟨_ | _ | _, w, b⟩ <;> simp [CarriesEcho, Transmission.withdrawEcho]

/-- What the end of a test leaves of the rest. -/
theorem abortEcho_rest (n : Dnc) : n.abortEcho.net = n.net ∧ n.abortEcho.tec = n.tec ∧ n.abortEcho.recCount = n.recCount ∧
    n.abortEcho.foreign = n.foreign ∧ n.abortEcho.queuedCease = n.queuedCease ∧ n.abortEcho.queuedSetpoints = n.queuedSetpoints := by
  unfold Dnc.abortEcho
  split <;> exact ⟨rfl, rfl, rfl, rfl, rfl, rfl⟩

theorem abortEcho_noFlow (h : NoFlow n) : NoFlow n.abortEcho := by
  by_cases hr : n.echo.state = .running
  · rw [abortEcho_of_running hr]
    refine ⟨h.queued, fun y hy hc => ?_⟩
    obtain ⟨x, hx, rfl⟩ := Option.map_eq_some_iff.mp hy
    exact withdrawn_withdrawEcho (h.sending x hx (by rwa [carried_withdrawEcho] at hc))
  · rwa [abortEcho_of_not_running hr]

/-- Whatever net state it is ended in, a test that is ended is sound (R169, R177). -/
theorem abortEcho_echo (h : EchoSound n) (st : NetState) : EchoSound ({ n with net := st } : Dnc).abortEcho := by
  by_cases hr : n.echo.state = .running
  · rw [abortEcho_of_running (n := { n with net := st }) hr]
    refine ⟨nofun, nofun, nofun, fun y hy hc => ?_⟩
    obtain ⟨x, -, rfl⟩ := Option.map_eq_some_iff.mp hy
    exact absurd hc (not_carriesEcho_withdrawEcho x)
  · rw [abortEcho_of_not_running (n := { n with net := st }) hr]
    exact ⟨fun hc => absurd hc hr, h.wait, h.queued, h.sent⟩

theorem abortEcho_kept (n : Dnc) : NetKept n n.abortEcho := by
  obtain ⟨hnet, htec, hrec, hforeign, hcease, hset⟩ := abortEcho_rest n
  refine ⟨fun h => ⟨?_, ⟨by rw [hset]; exact h.queue.one_setpoint, fun hn => ?_⟩, abortEcho_echo h.echo n.net, fun hn => ?_⟩,
    fun _ => abortEcho_noFlow⟩
  · obtain ⟨h1, h2, h3, h4⟩ := h.counts
    constructor <;> simpa only [hnet, htec, hrec, hforeign]
  all_goals
    have hr : n.echo.state ≠ .running := fun hr => by rw [hnet, h.echo.active hr] at hn; cases hn
    rw [abortEcho_of_not_running hr] at hn ⊢
  · exact h.queue.off_empty hn
  · exact h.off_idle hn

theorem abortEchoOf_kept (d : Dock) (n : Dnc) : NetKept n (n.abortEchoOf d) := by
  unfold Dnc.abortEchoOf
  split
  · exact abortEcho_kept n
  · exact .refl n

/-! ### Counts and net state (R169, R170) -/

/-- The counts before the net state is settled: within their ranges, and past the limit in NET-OFF. -/
structure CountsMoved (n : Dnc) : Prop where
  off : n.net = .off → 255 < n.tec
  tec_range : n.tec ≤ 263
  rec_range : n.recCount ≤ 255
  foreign_range : n.foreign ≤ 255

theorem NetSound.moved (h : NetSound n) : CountsMoved n :=
  ⟨fun hn => netStateOf_eq_off.mp (h.counts.state ▸ hn), h.counts.tec_range, h.counts.rec_range, h.counts.foreign_range⟩

/-- The Dock Net Controller with its net state settled (R169). -/
def settledAt (uptime : Nat) (n : Dnc) : Dnc :=
  if n.net = .off ∨ n.net = netStateOf n.tec n.recCount then n else n.enterNet (netStateOf n.tec n.recCount) uptime

variable (u : Nat)

/-- What an entry into a net state leaves of the counts, and of the queue (R169, R170). -/
theorem enterNet_rest (st : NetState) (n : Dnc) : (n.enterNet st u).net = st ∧ (n.enterNet st u).tec = n.tec ∧
    (n.enterNet st u).recCount = n.recCount ∧ (n.enterNet st u).foreign = n.foreign ∧
    ((n.enterNet st u).queuedSetpoints = n.queuedSetpoints ∨ (n.enterNet st u).queuedSetpoints = []) := by
  cases st with
  | active => exact ⟨rfl, rfl, rfl, rfl, .inl rfl⟩
  | passive =>
    obtain ⟨hnet, htec, hrec, hforeign, -, hset⟩ := abortEcho_rest { n with net := .passive }
    exact ⟨hnet, htec, hrec, hforeign, .inl hset⟩
  | off =>
    obtain ⟨hnet, htec, hrec, hforeign, -, hset⟩ := abortEcho_rest { n with net := .off, queuedCease := false, queuedSetpoints := [] }
    exact ⟨hnet, htec, hrec, hforeign, .inr hset⟩

theorem enterNet_echo (h : EchoSound n) (st : NetState) : EchoSound (n.enterNet st u) := by
  cases st with
  | active => exact ⟨fun _ => rfl, h.wait, h.queued, h.sent⟩
  | passive => exact abortEcho_echo h .passive
  | off =>
    have ha := abortEcho_echo (n := { n with queuedCease := false, queuedSetpoints := [] }) ⟨h.active, h.wait, h.queued, h.sent⟩ .off
    exact ⟨ha.active, ha.wait, nofun, fun x hx hc => ⟨(ha.sent x hx hc).1, (ha.sent x hx hc).2.1, rfl⟩⟩

theorem enterNet_noFlow (h : NoFlow n) (st : NetState) : NoFlow (n.enterNet st u) := by
  cases st with
  | active => exact ⟨h.queued, h.sending⟩
  | passive => exact abortEcho_noFlow (n := { n with net := .passive }) ⟨h.queued, h.sending⟩
  | off =>
    have ha := abortEcho_noFlow (n := { n with net := .off, queuedCease := false, queuedSetpoints := [] }) ⟨nofun, h.sending⟩
    exact ⟨ha.queued, ha.sending⟩

theorem settledAt_counts (h : CountsMoved n) : CountsSound (settledAt u n) := by
  obtain ⟨hoff, htec, hrec, hforeign⟩ := h
  unfold settledAt
  split
  · next hn => exact ⟨hn.elim (fun ho => ho.trans (netStateOf_eq_off.mpr (hoff ho)).symm) id, htec, hrec, hforeign⟩
  · obtain ⟨hnet, ht, hr, hf, -⟩ := enterNet_rest u (netStateOf n.tec n.recCount) n
    exact ⟨by rw [hnet, ht, hr], ht.trans_le htec, hr.trans_le hrec, hf.trans_le hforeign⟩

theorem enterNet_queue (h : QueueSound n) (st : NetState) : QueueSound (n.enterNet st u) := by
  obtain ⟨hnet, -, -, -, hset⟩ := enterNet_rest u st n
  refine ⟨?_, fun ho => ?_⟩
  · rcases hset with hset | hset <;> rw [hset]
    · exact h.one_setpoint
    · exact .nil
  · obtain rfl := hnet.symm.trans ho
    obtain ⟨-, -, -, -, hcease, hqueued⟩ := abortEcho_rest { n with net := .off, queuedCease := false, queuedSetpoints := [] }
    exact ⟨hcease, hqueued, rfl⟩

theorem settledAt_queue (h : QueueSound n) : QueueSound (settledAt u n) := by
  unfold settledAt
  split
  · exact h
  · exact enterNet_queue u h _

theorem settledAt_echo (h : EchoSound n) : EchoSound (settledAt u n) := by
  unfold settledAt
  split
  · exact h
  · exact enterNet_echo u h _

theorem settledAt_noFlow (h : NoFlow n) : NoFlow (settledAt u n) := by
  unfold settledAt
  split
  · exact h
  · exact enterNet_noFlow u h _

/-- With a transmit count that leaves the net on, settling it keeps a sound Dock Net sound. -/
theorem settledAt_sound (hc : CountsMoved n) (hq : QueueSound n) (he : EchoSound n) (hi : n.net = .off → n.sending = none)
    (ht : n.net ≠ .off → n.tec ≤ 255) : NetSound (settledAt u n) := by
  refine ⟨settledAt_counts u hc, settledAt_queue u hq, settledAt_echo u he, ?_⟩
  unfold settledAt
  split
  · exact hi
  · next hn =>
    intro ho
    rw [(enterNet_rest u _ n).1, netStateOf_eq_off] at ho
    have := ht fun h => hn (.inl h)
    omega

theorem NetSound.tec_le (h : NetSound n) (hn : n.net ≠ .off) : n.tec ≤ 255 := by
  by_contra ht
  exact hn (h.counts.state.trans (netStateOf_eq_off.mpr (by omega)))

/-- A new receive count, settled, keeps the Dock Net (R167, R169). -/
theorem settledAt_recCount_kept {r : Nat} (ack : Bool) (hr : n.recCount ≤ 255 → r ≤ 255) :
    NetKept n (settledAt u { n with recCount := r, ackDriven := ack }) := by
  refine ⟨fun h => ?_, fun _ hf => settledAt_noFlow u ⟨hf.queued, hf.sending⟩⟩
  have hc := h.moved
  exact settledAt_sound u ⟨hc.off, hc.tec_range, hr hc.rec_range, hc.foreign_range⟩ h.queue h.echo h.off_idle h.tec_le

/-- The foreign count and the level driven in the ack slot concern nothing else (R162, R167). -/
theorem foreign_ack_kept {f : Nat} (ack : Bool) (hf : n.foreign ≤ 255 → f ≤ 255) :
    NetKept n { n with foreign := f, ackDriven := ack } :=
  ⟨fun h => ⟨⟨h.counts.state, h.counts.tec_range, h.counts.rec_range, hf h.counts.foreign_range⟩, h.queue, h.echo, h.off_idle⟩,
    fun _ h => ⟨h.queued, h.sending⟩⟩

/-- Cleared counts return the net to NET-ACTIVE (R170, R171). -/
theorem restart_kept (n : Dnc) : NetKept n { n with tec := 0, recCount := 0, net := .active, recoveryTimer := none } :=
  ⟨fun h => ⟨⟨rfl, Nat.zero_le _, Nat.zero_le _, h.counts.foreign_range⟩, ⟨h.queue.one_setpoint, nofun⟩,
    ⟨fun _ => rfl, h.echo.wait, h.echo.queued, h.echo.sent⟩, nofun⟩, fun _ h => ⟨h.queued, h.sending⟩⟩

/-! ### The course of an echo test (R175, R176) -/

/-- The test runs, and no ECHO of it is queued or in transmission. -/
structure EchoOut (n : Dnc) : Prop where
  running : n.echo.state = .running
  queued : n.queuedEcho = none
  sent : ∀ x ∈ n.sending, ¬CarriesEcho x

/-- While the wait runs, the ECHO has gone out. -/
theorem echoOut_of_wait (h : NetSound n) (hw : n.echo.wait.isSome = true) : EchoOut n := by
  have hne : n.echo.wait ≠ none := by simpa [Option.isSome_iff_ne_none] using hw
  refine ⟨h.echo.wait hw, ?_, fun x hx hc => hne (h.echo.sent x hx hc).2.1⟩
  by_contra hq
  exact hne (h.echo.queued (Option.isSome_iff_ne_none.mpr hq)).2

/-- After the ECHO of a sequence has gone out the test ends or queues the next, whatever has been counted (R176). -/
theorem echoGoOn_sound (h : NetSound n) (ho : EchoOut n) (matched mismatched missed : Nat) : NetSound
    (Dnc.echoGoOn { n with echo := { n.echo with matched := matched, mismatched := mismatched, missed := missed } }) := by
  have hactive := h.echo.active ho.running
  unfold Dnc.echoGoOn
  dsimp only
  split
  · exact ⟨h.counts, h.queue,
      ⟨fun _ => hactive, nofun, fun hq => (by simp [ho.queued] at hq), fun x hx hc => absurd hc (ho.sent x hx)⟩, h.off_idle⟩
  · refine ⟨h.counts, ⟨h.queue.one_setpoint, fun hn => ?_⟩,
      ⟨fun _ => hactive, nofun, fun _ => ⟨ho.running, rfl⟩, fun x hx hc => absurd hc (ho.sent x hx)⟩, h.off_idle⟩
    cases hactive.symm.trans hn

theorem echoGoOn_noFlow (h : NoFlow n) : NoFlow n.echoGoOn := by
  unfold Dnc.echoGoOn
  dsimp only
  split <;> exact ⟨h.queued, h.sending⟩

theorem echoMiss_kept (ho : EchoOut n) : NetKept n n.echoMiss :=
  ⟨fun h => echoGoOn_sound h ho n.echo.matched n.echo.mismatched (n.echo.missed + 1),
    fun _ h => echoGoOn_noFlow ⟨h.queued, h.sending⟩⟩

theorem echoStartWait_kept (ho : EchoOut n) : NetKept n n.echoStartWait :=
  ⟨fun h => ⟨h.counts, h.queue, ⟨h.echo.active, fun _ => ho.running, fun hq => (by simp [Dnc.echoStartWait, ho.queued] at hq),
    fun x hx hc => absurd hc (ho.sent x hx)⟩, h.off_idle⟩, fun _ h => ⟨h.queued, h.sending⟩⟩

theorem echoReceive_kept (source : Nat) (payload : List Byte) (n : Dnc) : NetKept n (n.echoReceive source payload) := by
  unfold Dnc.echoReceive
  split
  · exact .refl n
  · next hw =>
    have ho : NetSound n → EchoOut n := fun h => echoOut_of_wait h (by simp [hw])
    split
    · split
      · exact ⟨fun h => echoGoOn_sound h (ho h) (n.echo.matched + 1) n.echo.mismatched n.echo.missed,
          fun _ h => echoGoOn_noFlow ⟨h.queued, h.sending⟩⟩
      · exact ⟨fun h => echoGoOn_sound h (ho h) n.echo.matched (n.echo.mismatched + 1) n.echo.missed,
          fun _ h => echoGoOn_noFlow ⟨h.queued, h.sending⟩⟩
    · exact .refl n

/-- A test starts in NET-ACTIVE while none runs (R175). -/
theorem startEcho_kept (a count : Nat) (hr : n.echo.state ≠ .running) (hn : n.net = .active) : NetKept n (n.startEcho a count) := by
  refine ⟨fun h => ⟨h.counts, ⟨h.queue.one_setpoint, fun hc => ?_⟩,
    ⟨fun _ => hn, nofun, fun _ => ⟨rfl, rfl⟩, fun x hx hc => absurd (h.echo.sent x hx hc).1 hr⟩, h.off_idle⟩,
    fun _ h => ⟨h.queued, h.sending⟩⟩
  cases hn.symm.trans hc

/-- The time base counts the wait down, running or not (R176). -/
theorem wait_kept (f : Nat → Nat) (n : Dnc) : NetKept n { n with echo := { n.echo with wait := n.echo.wait.map f } } := by
  have hnone : ∀ {w : Option Nat}, w = none → w.map f = none := fun h => by rw [h]; rfl
  exact ⟨fun h => ⟨h.counts, h.queue,
    ⟨h.echo.active, fun hw => h.echo.wait (by simpa using hw), fun hq => ⟨(h.echo.queued hq).1, hnone (h.echo.queued hq).2⟩,
      fun x hx hc => ⟨(h.echo.sent x hx hc).1, hnone (h.echo.sent x hx hc).2.1, (h.echo.sent x hx hc).2.2⟩⟩, h.off_idle⟩,
    fun _ h => ⟨h.queued, h.sending⟩⟩

/-! ### Attempts (R164 to R166) -/

/-- The frame `takeHead` gives leaves the queue, in the order CEASE, SETPOINTs, ECHO (R172). -/
theorem takeHead_cases {f : NetFrame} {m : Dnc} (h : n.takeHead = some (f, m)) :
    (f = .cease ∧ m = { n with queuedCease := false }) ∨
    (∃ g rest, n.queuedSetpoints = g :: rest ∧ f = .setpoint g ∧ m = { n with queuedSetpoints := rest }) ∨
    (∃ e, n.queuedEcho = some e ∧ f = .echo e ∧ m = { n with queuedEcho := none }) := by
  unfold Dnc.takeHead at h
  split at h
  · cases h
    exact .inl ⟨rfl, rfl⟩
  · split at h
    · next g rest hq =>
      cases h
      exact .inr (.inl ⟨g, rest, hq, rfl, rfl⟩)
    · split at h
      · next e hq =>
        split at h
        · cases h
          exact .inr (.inr ⟨e, hq, rfl, rfl⟩)
        · cases h
      · cases h

/-- The frame at the head goes into transmission, and carries a flow only when one of the queue does. -/
theorem sendHead_kept {f : NetFrame} {m : Dnc} (hon : n.net ≠ .off) (h : n.takeHead = some (f, m)) :
    NetKept n { m with sending := some { frame := f, withdrawn := false, superseded := false } } := by
  rcases takeHead_cases h with ⟨rfl, rfl⟩ | ⟨g, rest, hq, rfl, rfl⟩ | ⟨e, hq, rfl, rfl⟩
  · refine ⟨fun h => ⟨h.counts, ⟨h.queue.one_setpoint, fun hn => absurd hn hon⟩,
      ⟨h.echo.active, h.echo.wait, h.echo.queued, ?_⟩, fun hn => absurd hn hon⟩, fun _ h => ⟨h.queued, ?_⟩⟩
    · rintro _ ⟨⟩ ⟨-, _, ⟨⟩⟩
    · rintro _ ⟨⟩ hc
      exact absurd rfl hc
  · refine ⟨fun h => ⟨h.counts, ⟨?_, fun hn => absurd hn hon⟩,
      ⟨h.echo.active, h.echo.wait, h.echo.queued, ?_⟩, fun hn => absurd hn hon⟩,
      fun _ h => ⟨fun f hf => h.queued f (hq ▸ List.mem_cons_of_mem _ hf), ?_⟩⟩
    · have hp := h.queue.one_setpoint
      rw [hq] at hp
      exact hp.of_cons
    · rintro _ ⟨⟩ ⟨-, _, ⟨⟩⟩
    · rintro _ ⟨⟩ hc
      exact absurd (h.queued g (hq ▸ List.mem_cons_self)) hc
  · refine ⟨fun h => ⟨h.counts, ⟨h.queue.one_setpoint, fun hn => absurd hn hon⟩,
      ⟨h.echo.active, h.echo.wait, nofun, fun _ _ _ => ?_⟩, fun hn => absurd hn hon⟩, fun _ h => ⟨h.queued, ?_⟩⟩
    · obtain ⟨hrunning, hwait⟩ := h.echo.queued (by simp [hq])
      exact ⟨hrunning, hwait, rfl⟩
    · rintro _ ⟨⟩ hc
      exact absurd rfl hc

theorem startAttempt_kept (n : Dnc) : NetKept n n.startAttempt := by
  unfold Dnc.startAttempt
  split
  · exact .refl n
  · split
    · exact .refl n
    · next hon =>
      split
      · next hm => exact sendHead_kept hon hm
      · exact .refl n

/-- The frame of an attempt that was cut off is dropped, or returned outside NET-OFF, neither withdrawn nor superseded (R166). -/
theorem returnFrame_cases {x : Transmission} (hx : n.sending = some x) :
    n.returnFrame = { n with sending := none } ∨
    (x.withdrawn = false ∧ n.net ≠ .off ∧
      ((x.frame = .cease ∧ n.returnFrame = { n with sending := none, queuedCease := true }) ∨
      (∃ f, x.frame = .setpoint f ∧ (∀ g ∈ n.queuedSetpoints, f.dock ≠ g.dock) ∧
        n.returnFrame = { n with sending := none, queuedSetpoints := f :: n.queuedSetpoints }) ∨
      (∃ e, x.frame = .echo e ∧ n.returnFrame = { n with sending := none, queuedEcho := some e }))) := by
  unfold Dnc.returnFrame
  simp only [hx]
  split
  · exact .inl rfl
  · next hkeep =>
    simp only [not_or, Bool.not_eq_true] at hkeep
    obtain ⟨hw, -, hn⟩ := hkeep
    cases hf : x.frame with
    | cease => exact .inr ⟨hw, hn, .inl ⟨rfl, rfl⟩⟩
    | echo e => exact .inr ⟨hw, hn, .inr (.inr ⟨e, rfl, rfl⟩)⟩
    | setpoint f =>
      dsimp only
      split
      · exact .inl rfl
      · next hany =>
        refine .inr ⟨hw, hn, .inr (.inl ⟨f, rfl, fun g hg hc => hany ?_, rfl⟩)⟩
        exact List.any_eq_true.mpr ⟨g, hg, decide_eq_true hc.symm⟩

/-- A frame that goes back to its place leaves the Dock Net sound, also when the net has just been turned off (R166, R170). -/
theorem returnFrame_sound (hc : CountsSound n) (hq : QueueSound n) (he : EchoSound n) : NetSound n.returnFrame := by
  have hdropped : NetSound { n with sending := none } :=
    ⟨hc, hq, ⟨he.active, he.wait, he.queued, nofun⟩, fun _ => rfl⟩
  cases hx : n.sending with
  | none =>
    have hsame : n.returnFrame = n := by simp only [Dnc.returnFrame, hx]
    rw [hsame]
    exact ⟨hc, hq, he, fun _ => hx⟩
  | some x =>
    rcases returnFrame_cases hx with h | ⟨hw, hn, ⟨-, h⟩ | ⟨f, -, hone, h⟩ | ⟨e, hf, h⟩⟩ <;> rw [h]
    · exact hdropped
    · exact ⟨hdropped.counts, ⟨hq.one_setpoint, fun ho => absurd ho hn⟩, ⟨he.active, he.wait, he.queued, nofun⟩, fun _ => rfl⟩
    · exact ⟨hdropped.counts, ⟨hq.one_setpoint.cons hone, fun ho => absurd ho hn⟩,
        ⟨he.active, he.wait, he.queued, nofun⟩, fun _ => rfl⟩
    · obtain ⟨hrunning, hwait, -⟩ := he.sent x hx ⟨hw, e, hf⟩
      exact ⟨hdropped.counts, ⟨hq.one_setpoint, fun ho => absurd ho hn⟩,
        ⟨he.active, he.wait, fun _ => ⟨hrunning, hwait⟩, nofun⟩, fun _ => rfl⟩

/-- A frame that goes back has not been withdrawn, so carries no flow when none that does is tried again. -/
theorem returnFrame_noFlow (h : NoFlow n) : NoFlow n.returnFrame := by
  cases hx : n.sending with
  | none => simpa only [Dnc.returnFrame, hx] using h
  | some x =>
    rcases returnFrame_cases hx with h' | ⟨hw, -, ⟨-, h'⟩ | ⟨f, hf, -, h'⟩ | ⟨e, -, h'⟩⟩ <;> rw [h']
    · exact ⟨h.queued, nofun⟩
    · exact ⟨h.queued, nofun⟩
    · refine ⟨fun g hg => ?_, nofun⟩
      rcases List.mem_cons.mp hg with rfl | hg
      · by_contra hv
        have hcarried : carried x = g.value := by rw [carried, hf]
        rw [h.sending x hx (hcarried ▸ hv)] at hw
        cases hw
      · exact h.queued g hg
    · exact ⟨h.queued, nofun⟩

theorem returnFrame_kept (n : Dnc) : NetKept n n.returnFrame :=
  ⟨fun h => returnFrame_sound h.counts h.queue h.echo, fun _ => returnFrame_noFlow⟩

/-- A transmit error: the count goes up by 8, and past 255 turns the net off before the frame is dropped (R165, R170). -/
theorem transmitError_kept {x : Transmission} (hx : n.sending = some x) :
    NetKept n (settledAt u { n with tec := n.tec + 8 }).returnFrame := by
  refine ⟨fun h => ?_, fun _ hf => returnFrame_noFlow (settledAt_noFlow u ⟨hf.queued, hf.sending⟩)⟩
  have hon : n.net ≠ .off := fun ho => by cases (h.off_idle ho).symm.trans hx
  have ht := h.tec_le hon
  refine returnFrame_sound (settledAt_counts u ⟨fun ho => absurd ho hon, ?_, h.counts.rec_range, h.counts.foreign_range⟩)
    (settledAt_queue u h.queue) (settledAt_echo u h.echo)
  dsimp only
  omega

/-- A whole attempt has ended: the count goes down by 1, and no frame is in transmission (R165). -/
def attemptOver (uptime : Nat) (n : Dnc) : Dnc := { settledAt uptime { n with tec := n.tec - 1 } with sending := none }

theorem attemptOver_kept {x : Transmission} (hx : n.sending = some x) : NetKept n (attemptOver u n) := by
  refine ⟨fun h => ?_, fun _ hf => ?_⟩
  · have hon : n.net ≠ .off := fun ho => by cases (h.off_idle ho).symm.trans hx
    have ht := h.tec_le hon
    have hs : NetSound (settledAt u { n with tec := n.tec - 1 }) := settledAt_sound u
      ⟨fun ho => absurd ho hon, (Nat.sub_le _ _).trans h.counts.tec_range, h.counts.rec_range, h.counts.foreign_range⟩
      h.queue h.echo h.off_idle fun _ => (Nat.sub_le _ _).trans ht
    exact ⟨hs.counts, hs.queue, ⟨hs.echo.active, hs.echo.wait, hs.echo.queued, nofun⟩, fun _ => rfl⟩
  · have hs : NoFlow (settledAt u { n with tec := n.tec - 1 }) := settledAt_noFlow u ⟨hf.queued, hf.sending⟩
    exact ⟨hs.queued, nofun⟩

/-- After a whole attempt with an ECHO of the test, the test runs on with nothing of it queued: the net was active and stays so. -/
theorem attemptOver_echoOut (h : NetSound n) {x : Transmission} (hx : n.sending = some x) (he : CarriesEcho x) :
    EchoOut (attemptOver u n) := by
  obtain ⟨hrunning, -, hqueued⟩ := h.echo.sent x hx he
  have hactive := h.echo.active hrunning
  obtain ⟨ht, hr⟩ := netStateOf_eq_active.mp (h.counts.state ▸ hactive)
  have hsettled : settledAt u { n with tec := n.tec - 1 } = { n with tec := n.tec - 1 } :=
    if_pos (.inr (hactive.trans (netStateOf_eq_active.mpr ⟨by dsimp only; omega, hr⟩).symm))
  unfold attemptOver
  rw [hsettled]
  exact ⟨hrunning, hqueued, nofun⟩

/-! ### A CEASE and a pass (R102, R172, R173) -/

theorem enqueueCease_sound (h : NetSound n) : NetSound n.enqueueCease := by
  by_cases hn : n.net = .off
  · rwa [enqueueCease_off hn]
  · have hone := enqueueCease_pairwise h.queue.one_setpoint
    rw [enqueueCease_eq hn] at hone ⊢
    refine ⟨h.counts, ⟨hone, fun ho => absurd ho hn⟩,
      ⟨h.echo.active, h.echo.wait, h.echo.queued, fun y hy hc => ?_⟩, fun ho => absurd ho hn⟩
    obtain ⟨x, hx, rfl⟩ := Option.map_eq_some_iff.mp hy
    refine h.echo.sent x hx ?_
    rcases x with ⟨_ | f | _, w, b⟩
    · obtain ⟨-, _, ⟨⟩⟩ := hc
    · unfold Transmission.supersedeCease Transmission.withdrawSetpoint at hc
      dsimp only at hc
      split at hc <;> obtain ⟨-, _, ⟨⟩⟩ := hc
    · exact hc

/-- A pass keeps the queue at one SETPOINT for each dock (R172). -/
theorem runPass_pairwise (s : State) (h : s.dnc.queuedSetpoints.Pairwise fun f g => f.dock ≠ g.dock) :
    (runPass s).dnc.queuedSetpoints.Pairwise fun f g => f.dock ≠ g.dock := by
  obtain ⟨t, -, hdnc, hrun⟩ := runPass_written s
  obtain ⟨hqueued, -⟩ := writeDocks_net_fields s t (passOutcome s)
  rw [hrun]
  refine foldl_keeps_pred (fun u : State => u.dnc.queuedSetpoints.Pairwise fun f g => f.dock ≠ g.dock) (fun u d => queueFor d u) _
    (fun u d _ => queueFor_pairwise u d) _ ?_
  rwa [hqueued, hdnc]

/-- New phase bits, other SETPOINTs and a mark on the frame in transmission leave the rest of the Dock Net sound. -/
theorem withPassFields_sound (h : NetSound n) (v : Vector Bool 40) {q : List Setpoint} (m : Dock → Bool)
    (hq : q.Pairwise fun f g => f.dock ≠ g.dock) (hoff : n.net = .off → q = []) :
    NetSound (withPassFields v q (n.sending.map (marked m)) n) := by
  refine ⟨h.counts, ⟨hq, fun hn => ?_⟩, ⟨h.echo.active, h.echo.wait, h.echo.queued, fun y hy hc => ?_⟩, fun hn => ?_⟩
  · obtain ⟨hcease, -, hecho⟩ := h.queue.off_empty hn
    exact ⟨hcease, hoff hn, hecho⟩
  · obtain ⟨x, hx, rfl⟩ := Option.map_eq_some_iff.mp hy
    obtain ⟨hframe, hwithdrawn⟩ := marked_kept m x
    exact h.echo.sent x hx ⟨hwithdrawn ▸ hc.1, hframe ▸ hc.2⟩
  · exact Option.map_eq_none_iff.mpr (h.off_idle hn)

theorem runPass_sound (s : State) (h : NetSound s.dnc) : NetSound (runPass s).dnc := by
  rw [runPass_dnc_full]
  refine withPassFields_sound h _ _ (runPass_pairwise s h.queue.one_setpoint) fun hn => ?_
  obtain ⟨-, hq, -⟩ := h.queue.off_empty hn
  exact (congrArg Dnc.queuedSetpoints (runPass_dnc_off hq (h.off_idle hn) hn)).trans hq

end Sys2Proof.SiteLimits
end

section
/-! What leaves the trip state and the clock: the Dock Net, the Dock Table, plans, events, the tally and the pass. From such an operation's
state before to the state after, a sound Dock Net stays sound, no flow begins outside NORMAL, and EXPERM stays what its conditions give. -/

namespace Sys2Proof.SiteLimits

open Sys2Proof Sys2Proof.Machine Sys2Proof.RoutePlans Sys2Proof.Allocation

/-- From `s` to `t` a sound Dock Net stays sound (R169 to R177), a quiet one quiet outside NORMAL (R128), and EXPERM right (R132). -/
structure Safe (s t : State) : Prop where
  net : s.NetOk → t.NetOk
  quiet : s.NetOk → s.TripQuiet → t.TripQuiet
  experm : s.ExpermOk → t.ExpermOk

/-- So it is, and the trip state and the clock are as they were. -/
structure Still (s t : State) : Prop extends Safe s t where
  trip : t.slu.trip = s.slu.trip
  dck : t.dck = s.dck

variable {s t u : State}

theorem Safe.refl (s : State) : Safe s s := ⟨id, fun _ => id, id⟩

theorem Safe.trans (h : Safe s t) (k : Safe t u) : Safe s u :=
  ⟨k.net ∘ h.net, fun hn hq => k.quiet (h.net hn) (h.quiet hn hq), k.experm ∘ h.experm⟩

/-- What the Dock Net keeps, the state keeps while the trip state does not come out of NORMAL. -/
theorem Safe.of_netKept (hn : NetKept s.dnc t.dnc) (ht : s.slu.trip = .normal → t.slu.trip = .normal) (he : s.ExpermOk → t.ExpermOk) :
    Safe s t := by
  refine ⟨fun h => netOk_iff.mpr (hn.sound (netOk_iff.mp h)), fun h hq => tripQuiet_iff.mpr fun hout => ?_, he⟩
  exact hn.noFlow (netOk_iff.mp h) (tripQuiet_iff.mp hq fun hs => hout (ht hs))

theorem expermOk_iff : s.ExpermOk ↔ s.slu.experm = expermCondition s := by
  rw [Bool.eq_iff_iff]
  simp only [State.ExpermOk, expermCondition, Bool.and_eq_true, decide_eq_true_eq, and_assoc]

/-- EXPERM depends on itself, the trip state, the clock state and the table's validity alone (R132). -/
theorem expermOk_congr (he : t.slu.experm = s.slu.experm) (ht : t.slu.trip = s.slu.trip) (hv : t.slu.tableValid = s.slu.tableValid)
    (hr : t.dck.running = s.dck.running) (h : s.ExpermOk) : t.ExpermOk := by
  unfold State.ExpermOk at *
  rwa [he, ht, hv, hr]

theorem settleExperm_expermOk (s : State) : (settleExperm s).ExpermOk := expermOk_iff.mpr rfl

theorem Still.refl (s : State) : Still s s := ⟨.refl s, rfl, rfl⟩

theorem Still.trans (h : Still s t) (k : Still t u) : Still s u := ⟨h.toSafe.trans k.toSafe, k.trip.trans h.trip, k.dck.trans h.dck⟩

/-- Where the Dock Net keeps what it has, and the settings of the site limits but not their state may change. -/
theorem Still.settings (h : Still s t) (hn : u.dnc = t.dnc) (he : u.slu.experm = t.slu.experm) (ht : u.slu.trip = t.slu.trip)
    (hv : u.slu.tableValid = t.slu.tableValid) (hk : u.dck = t.dck) : Still s u :=
  h.trans ⟨.of_netKept (hn ▸ .refl _) (ht.trans ·) (expermOk_congr he ht hv (congrArg Dck.running hk)), ht, hk⟩

/-- Where EXPERM is set anew from its conditions. -/
theorem Still.settled (h : Still s t) (hn : u.dnc = t.dnc) (ht : u.slu.trip = t.slu.trip) (hk : u.dck = t.dck) (he : u.ExpermOk) :
    Still s u :=
  h.trans ⟨.of_netKept (hn ▸ .refl _) (ht.trans ·) fun _ => he, ht, hk⟩

/-- Where the Dock Net alone changes, of the three. -/
theorem Still.ofNet (h : Still s t) (hn : NetKept t.dnc u.dnc) (hl : u.slu = t.slu) (hk : u.dck = t.dck) : Still s u :=
  h.trans ⟨.of_netKept hn (hl ▸ id) (expermOk_congr (hl ▸ rfl) (hl ▸ rfl) (hl ▸ rfl) (hk ▸ rfl)), hl ▸ rfl, hk⟩

/-- Where none of the three changes. -/
theorem Still.same (h : Still s t) (hn : u.dnc = t.dnc) (hl : u.slu = t.slu) (hk : u.dck = t.dck) : Still s u :=
  h.ofNet (hn ▸ .refl _) hl hk

/-! ### The updates of the state -/

theorem Still.setDock {d : Dock} {r : DockRecord} (h : Still s t) : Still s (t.setDock d r) := h.same rfl rfl rfl
theorem Still.modifyDock {d : Dock} {f : DockRecord → DockRecord} (h : Still s t) : Still s (t.modifyDock d f) := h.same rfl rfl rfl
theorem Still.mapPort {l : Link} {f : Port → Port} (h : Still s t) : Still s (t.mapPort l f) := h.same (by simp) (by simp) (by simp)
theorem Still.mapPlans {f : List Plan → List Plan} (h : Still s t) : Still s (t.mapPlans f) := h.same rfl rfl rfl
theorem Still.mapTally {f : Tally → Tally} (h : Still s t) : Still s (t.mapTally f) := h.same rfl rfl rfl
theorem Still.mapEvq {f : List EventRecord → List EventRecord} (h : Still s t) : Still s (t.mapEvq f) := h.same rfl rfl rfl
theorem Still.drawn (h : Still s t) : Still s t.drawn := h.same rfl rfl rfl
theorem Still.mapDnc {f : Dnc → Dnc} (hf : ∀ n, NetKept n (f n)) (h : Still s t) : Still s (t.mapDnc f) := h.ofNet (hf _) rfl rfl
theorem Still.raiseOn {l : Link} {n : Notice} (h : Still s t) : Still s (raiseOn l n t) := h.mapPort
theorem Still.raiseBoth {n : Notice} (h : Still s t) : Still s (raiseBoth n t) := h.raiseOn.raiseOn
theorem Still.changeHolds {c : Plan → Option (Plan × HoldCause)} (h : Still s t) : Still s (changeHolds c t) :=
  h.same (by simp) (by simp) (by simp)

/-- A fold of such operations is one. -/
theorem Still.foldl {α : Type} {f : State → α → State} (hf : ∀ u a, Still u (f u a)) (l : List α) (h : Still s t) :
    Still s (l.foldl f t) :=
  foldl_keeps_pred (Still s) f l (fun u a _ hu => hu.trans (hf u a)) t h

/-- A pass outside NORMAL queues 0 alone (R83, R128). -/
theorem Still.runPass (h : Still s t) : Still s (runPass t) := by
  refine h.trans ⟨⟨fun hn => netOk_iff.mpr (runPass_sound t (netOk_iff.mp hn)), fun hn hq => tripQuiet_iff.mpr fun hout => ?_,
    expermOk_congr (by simp) (by simp) (by simp) (by simp)⟩, by simp, runPass_dck t⟩
  rw [runPass_slu] at hout
  exact runPass_noFlow hn.one_setpoint hout (tripQuiet_iff.mp hq hout)

/-! ### The Dock Net Controller (R165 to R171) -/

theorem settleNet_dnc (c : NetCause) (s : State) : (settleNet c s).dnc = settledAt s.dck.uptime s.dnc := by
  unfold settleNet settledAt
  dsimp only
  split <;> simp

@[simp] theorem settleNet_slu (c : NetCause) (s : State) : (settleNet c s).slu = s.slu := by
  unfold settleNet
  dsimp only
  split <;> simp

@[simp] theorem settleNet_dck (c : NetCause) (s : State) : (settleNet c s).dck = s.dck := by
  unfold settleNet
  dsimp only
  split <;> simp

theorem Still.receiveInError {b : Bool} (h : Still s t) : Still s (receiveInError b t) :=
  h.ofNet (settleNet_dnc .recCount _ ▸ settledAt_recCount_kept _ b fun _ => Nat.min_le_left _ _) (settleNet_slu _ _) (settleNet_dck _ _)

theorem Still.receivedWhole (h : Still s t) : Still s (receivedWhole t) :=
  h.ofNet (settleNet_dnc .recCount _ ▸ settledAt_recCount_kept _ t.dnc.ackDriven fun hr => (Nat.sub_le _ _).trans hr) (settleNet_slu _ _)
    (settleNet_dck _ _)

theorem Still.receiveForeign (h : Still s t) : Still s (receiveForeign t) :=
  h.receivedWhole.mapDnc fun _ => foreign_ack_kept false fun _ => Nat.min_le_left _ _

theorem Still.receiveAccepted {b : Bool} (h : Still s t) : Still s (receiveAccepted b t) :=
  h.receivedWhole.mapDnc fun _ => foreign_ack_kept (!b) id

theorem Still.restartNet {c : NetCause} (h : Still s t) : Still s (restartNet c t) := by
  unfold Machine.restartNet
  dsimp only
  split
  · exact h.mapDnc restart_kept
  · exact (h.mapDnc restart_kept).raiseOn

theorem Still.expireEchoWait (h : Still s t) : Still s (expireEchoWait t) := by
  unfold Machine.expireEchoWait
  split
  · next hw => exact h.ofNet (.of_sound fun hn => echoMiss_kept (echoOut_of_wait hn (by simp [hw]))) rfl rfl
  · exact h

/-! ### The Dock Table (R4 to R24) -/

theorem Still.takeCounters {d : Dock} {b : Bool} {n e i : Nat} (h : Still s t) : Still s (takeCounters d b n e i t) := by
  unfold Machine.takeCounters
  dsimp only
  split
  · exact h.setDock
  · exact h.setDock.mapTally

theorem Still.enterFaulted {c : FaultCause} {d : Dock} (h : Still s t) : Still s (enterFaulted c d t) := h.same rfl rfl rfl

theorem Still.enterSilent {d : Dock} (h : Still s t) : Still s (enterSilent d t) := h.modifyDock.raiseOn.mapDnc (abortEchoOf_kept d)

theorem Still.leaveFaulted {b : Binding} {d : Dock} (h : Still s t) : Still s (leaveFaulted b d t) := by
  unfold Machine.leaveFaulted
  split <;> (dsimp only; split)
  · exact h.modifyDock
  · exact h.modifyDock.raiseOn
  · exact h.modifyDock
  · exact h.modifyDock.raiseOn

theorem Still.bindVehicle {d : Dock} {x : Nat} (h : Still s t) : Still s (bindVehicle d x t) := h.same rfl rfl rfl

theorem Still.releaseVehicle {d : Dock} {v : Nat} {k : DockNoticeKind} (h : Still s t) : Still s (releaseVehicle d v k t) := by
  have hp : Still s (planReleased v (dockNotice d k v (t.modifyDock d fun r => { r with vehicle := none }.toAllocator))) :=
    (Still.raiseOn h.modifyDock).mapPlans
  unfold Machine.releaseVehicle Machine.examineWaiting
  dsimp only
  split
  · exact hp.bindVehicle
  · exact hp

theorem Still.bindAttempt {d : Dock} {x : Nat} {v : State} (hv : bindAttempt d x t = some v) (h : Still s t) : Still s v := by
  unfold Machine.bindAttempt at hv
  split at hv
  · cases hv
    exact h.bindVehicle
  · split at hv <;> cases hv
    exact Still.bindVehicle (h.same rfl rfl rfl)

theorem Still.bindOrFault {d : Dock} {x : Nat} {b : Binding} (h : Still s t) : Still s (bindOrFault d x b t).1 := by
  unfold Machine.bindOrFault
  split
  · next hv => exact h.bindAttempt hv
  · exact h.enterFaulted

theorem Still.bindOrKeep {d : Dock} {x : Nat} {b : Binding} (h : Still s t) : Still s (bindOrKeep d x b t).1 := by
  unfold Machine.bindOrKeep
  split
  · next hv => exact h.bindAttempt hv
  · exact h

theorem Still.statusRecord {d : Dock} {q : StatusReport} (h : Still s t) : Still s (statusRecord d q t) := by
  unfold Machine.statusRecord
  dsimp only
  exact Still.modifyDock (Still.takeCounters h.modifyDock)

theorem Still.statusReturn {d : Dock} (h : Still s t) : Still s (statusReturn d t) := by
  unfold Machine.statusReturn
  dsimp only
  split
  · split <;> exact h.modifyDock.modifyDock.raiseOn
  · exact h

theorem Still.statusVehicleTrusted {d : Dock} {x : Nat} (h : Still s t) : Still s (statusVehicleTrusted d x t).1 := by
  unfold Machine.statusVehicleTrusted
  dsimp only
  split
  · split
    · exact h
    · split
      · exact h.releaseVehicle.modifyDock
      · exact h.releaseVehicle.bindOrFault
  · split
    · exact h.same rfl rfl rfl
    · exact h.bindOrFault
  · split
    · exact h
    · exact h.bindOrFault

theorem Still.statusVehicleFaulted {d : Dock} {x : Nat} (h : Still s t) : Still s (statusVehicleFaulted d x t).1 := by
  unfold Machine.statusVehicleFaulted
  dsimp only
  split
  · split
    · exact h.leaveFaulted
    · split
      · next hv => exact h.bindAttempt hv
      · exact h.same rfl rfl rfl
  · split
    · exact h
    · split
      · exact h.releaseVehicle
      · exact h.releaseVehicle.bindOrKeep
  · split
    · exact h
    · exact h.bindOrKeep

theorem Still.statusVehicle {d : Dock} {x : Nat} (h : Still s t) : Still s (statusVehicle d x t).1 := by
  unfold Machine.statusVehicle
  split
  · exact h.statusVehicleFaulted
  · exact h.statusVehicleTrusted

theorem Still.statusFault {d : Dock} {c : Nat} {b : Binding} (h : Still s t) : Still s (statusFault d c b t) := by
  unfold Machine.statusFault
  dsimp only
  split
  · split
    · split
      · exact h.modifyDock
      · split
        · exact h.modifyDock.leaveFaulted
        · exact h.modifyDock
    · exact h
  · split
    · exact h.enterFaulted
    · exact h

theorem Still.checkPhaseEcho {d : Dock} {b : Bool} (h : Still s t) : Still s (checkPhaseEcho d b t) := by
  unfold Machine.checkPhaseEcho
  dsimp only
  split
  · split
    · split
      · exact h.modifyDock.enterFaulted
      · exact h.modifyDock
    · exact h.modifyDock
  · exact h

theorem Still.checkPower {d : Dock} {b : Bool} {m : Int} (h : Still s t) : Still s (checkPower d b m t) := by
  unfold Machine.checkPower
  dsimp only
  split
  · split
    · split
      · exact h.modifyDock.enterFaulted
      · exact h.modifyDock
    · exact h.modifyDock
  · exact h

theorem Still.takeStatus {d : Dock} {q : StatusReport} (h : Still s t) : Still s (takeStatus d q t) := by
  unfold Machine.takeStatus Machine.statusChecks
  dsimp only
  split
  · exact h
  · split
    · exact h.statusRecord.statusReturn.statusVehicle.statusFault.checkPhaseEcho.checkPower
    · exact h.statusRecord.statusReturn.statusVehicle.statusFault

theorem Still.reportTimeout {d : Dock} (h : Still s t) : Still s (reportTimeout d t) := by
  unfold Machine.reportTimeout
  split
  · exact h.enterSilent
  · exact h

theorem Still.silentGrace {d : Dock} (h : Still s t) : Still s (silentGrace d t) := by
  unfold Machine.silentGrace
  split
  · dsimp only
    split
    · exact h.modifyDock.releaseVehicle.modifyDock
    · exact Still.modifyDock h.modifyDock.raiseOn
  · exact h

theorem Still.setpointEnded {d : Dock} {p a : Bool} (h : Still s t) : Still s (setpointEnded d p a t) := by
  unfold Machine.setpointEnded
  dsimp only
  split
  · exact h.modifyDock
  · split
    · split
      · exact h.modifyDock.enterSilent
      · exact h.modifyDock
    · exact h

theorem Still.disableDock {d : Dock} (h : Still s t) : Still s (disableDock d t) := by
  unfold Machine.disableDock
  dsimp only
  split
  · exact h.modifyDock.releaseVehicle.modifyDock.mapDnc (abortEchoOf_kept d)
  · exact h.modifyDock.modifyDock.mapDnc (abortEchoOf_kept d)

/-! ### Frames of the Dock Net (R165, R167) -/

theorem Still.receiveFrame {f : NetWire} (h : Still s t) : Still s (receiveFrame f t) := by
  unfold Machine.receiveFrame handFrame
  split
  · exact h
  · split
    · split
      · split
        · exact h.receiveAccepted.takeStatus
        · exact h.receiveAccepted
      · exact h.receiveAccepted.mapDnc (echoReceive_kept f.source f.payload)
    · exact h.receiveForeign

/-- The state after a whole attempt, before its end is reported (R165). -/
def afterAttempt (s : State) : State :=
  (settleNet .tecCount (s.mapDnc fun n => { n with tec := n.tec - 1 })).mapDnc fun n => { n with sending := none }

theorem afterAttempt_dnc (s : State) : (afterAttempt s).dnc = attemptOver s.dck.uptime s.dnc := by
  rw [afterAttempt, State.mapDnc_dnc, settleNet_dnc]
  rfl

/-- A whole attempt is reported to the Dock Table, or to the echo test, whose ECHO has gone out (R165, R176). -/
theorem reportEnd_still {x : Transmission} (acked : Bool) (hx : s.dnc.sending = some x) :
    Still s (reportEnd x acked (afterAttempt s)) := by
  have hslu : (afterAttempt s).slu = s.slu := settleNet_slu _ _
  have hdck : (afterAttempt s).dck = s.dck := settleNet_dck _ _
  have hover : Still s (afterAttempt s) := (Still.refl s).ofNet (afterAttempt_dnc s ▸ attemptOver_kept _ hx) hslu hdck
  unfold reportEnd
  split
  · exact hover
  · exact hover.setpointEnded
  · next e he =>
    split
    · exact hover
    · next hw =>
      refine (Still.refl s).ofNet (.of_sound fun hn => ?_) hslu hdck
      have hout := attemptOver_echoOut s.dck.uptime hn hx ⟨by simpa using hw, e, he⟩
      rw [State.mapDnc_dnc, afterAttempt_dnc]
      refine (attemptOver_kept s.dck.uptime hx).trans ?_
      split
      · exact echoStartWait_kept hout
      · exact echoMiss_kept hout

/-- An attempt ends in error or whole (R165). -/
theorem Still.endAttempt {how : AttemptEnd} (h : Still s t) : Still s (endAttempt how t) := by
  unfold Machine.endAttempt
  split
  · exact h
  · next x hx =>
    split
    · refine h.ofNet ?_ (settleNet_slu _ _) (settleNet_dck _ _)
      rw [State.mapDnc_dnc, settleNet_dnc]
      exact transmitError_kept _ hx
    · next acked => exact h.trans (reportEnd_still acked hx)

/-! ### Plans, events and the tally (R31 to R44, R65 to R75, R148) -/

theorem Still.checkDue (h : Still s t) : Still s (checkDue t) := by
  unfold Machine.checkDue
  split
  · exact h.mapPlans
  · exact h

theorem Still.checkDueOf {v : Nat} (h : Still s t) : Still s (checkDueOf v t) := by
  unfold Machine.checkDueOf
  split
  · exact h.mapPlans
  · exact h

theorem Still.startFirst (h : Still s t) : Still s (startFirst t) := by
  unfold Machine.startFirst
  split
  · exact Still.raiseBoth (Still.runPass (h.ofNet (abortEcho_kept _) rfl rfl))
  · exact h

theorem Still.startIfReached (h : Still s t) : Still s (startIfReached t) := by
  unfold Machine.startIfReached
  split
  · exact h.startFirst
  · exact h

theorem Still.closeTally {r : EventRecord} {c : EndCause} {n : Nat} (h : Still s t) : Still s (closeTally r c n t).1 := by
  unfold Machine.closeTally
  split
  · exact h.same rfl rfl rfl
  · exact h

theorem Still.endActive {r : EventRecord} {c : EndCause} {n : Nat} (h : Still s t) : Still s (endActive r c n t) := by
  have hc : Still s (Machine.closeTally r c n (t.mapEvq fun q => q.erase r)).1 := h.mapEvq.closeTally
  exact Still.raiseBoth (Still.runPass ((hc.changeHolds (c := eventEndChange _)).same rfl rfl rfl))

theorem Still.endIfReached (h : Still s t) : Still s (endIfReached t) := by
  unfold Machine.endIfReached
  split
  · exact h.endActive
  · exact h

theorem Still.expirePassed (h : Still s t) : Still s (expirePassed t) := by
  refine Still.foldl (fun u r => ?_) _ h.mapEvq
  exact Still.raiseBoth ((Still.refl u).same rfl rfl rfl)

theorem Still.takeReached {i : Option Nat} (h : Still s t) : Still s (takeReached i t) := by
  rcases takeReached_cases t i with ⟨_, e⟩ | ⟨_, _, e⟩ | ⟨_, _, e⟩ <;> rw [e]
  · exact h
  · exact h.endIfReached
  · exact h.endIfReached.startIfReached

theorem Still.takeAfterRequest (h : Still s t) : Still s (takeAfterRequest t) := by
  rcases takeAfterRequest_cases t with ⟨_, _, e⟩ | ⟨_, e⟩ <;> rw [e]
  · exact h
  · exact h.drawn.takeReached

theorem Still.settlementIfReached (h : Still s t) : Still s (settlementIfReached t) := by
  unfold Machine.settlementIfReached Machine.passSettlement
  split
  · split
    · dsimp only
      split
      · exact Still.runPass h.mapTally.changeHolds
      · exact h.mapTally.changeHolds
    · exact h
  · exact h

/-! ### Site limits, rotation and the allocation timer (R78, R109 to R111, R119, R121, R133) -/

theorem Still.rollover (h : Still s t) : Still s (rollover t) :=
  h.settled (by simp [Machine.rollover]) (by simp [Machine.rollover]) (by simp [Machine.rollover]) (settleExperm_expermOk _)

theorem Still.overrideIfReached (h : Still s t) : Still s (overrideIfReached t) := by
  unfold Machine.overrideIfReached
  split
  · exact Still.runPass (h.settings rfl rfl rfl rfl rfl)
  · exact h

theorem Still.countTripSecond (h : Still s t) : Still s (countTripSecond t) := by
  unfold Machine.countTripSecond
  split
  · exact h
  · dsimp only
    split
    · exact Still.mapTally (h.settings rfl rfl rfl rfl rfl)
    · exact h.settings rfl rfl rfl rfl rfl

theorem Still.expireIntervalA (h : Still s t) : Still s (expireIntervalA t) := by
  unfold Machine.expireIntervalA
  split
  · exact Still.runPass (h.same rfl rfl rfl)
  · exact h

theorem Still.expireIntervalB (h : Still s t) : Still s (expireIntervalB t) := by
  unfold Machine.expireIntervalB
  split
  · exact Still.runPass (h.same rfl rfl rfl)
  · exact h

theorem Still.expireAllocation (h : Still s t) : Still s (expireAllocation t) := by
  unfold Machine.expireAllocation
  split
  · exact h.runPass
  · exact h

theorem Still.expireRecovery (h : Still s t) : Still s (expireRecovery t) := by
  unfold Machine.expireRecovery
  split
  · exact h.restartNet
  · exact h

/-- The moments of a delivery of depot time move neither the clock nor the trip state (R160). -/
theorem Still.takeMoment {m : ClockMove} {o : Moment} (h : Still s t) : Still s (takeMoment m t o) := by
  cases o <;> (unfold Machine.takeMoment; dsimp only; split)
  · unfold eventMoments
    split
    · exact h.expirePassed.takeReached
    · exact h.takeReached
  · exact h
  · exact h.checkDue
  · exact h
  · exact h.settlementIfReached
  · exact h
  · exact h.runPass
  · exact h
  · exact h.overrideIfReached
  · exact h

theorem Still.deliver {l : List Moment} {m : ClockMove} (h : Still s t) : Still s (deliver l m t) :=
  h.foldl (fun u _ => (Still.refl u).takeMoment) l

/-! ### Requests but for TIME SET and TIME TRIM (R31 to R39, R55 to R72, R113 to R125, R171, R175, R183) -/

theorem Still.requestHeadroomLoad {first : Nat} {daily : Bool} {l : List Nat} (h : Still s t) :
    Still s (requestHeadroomLoad first daily l t).1 := by
  unfold Machine.requestHeadroomLoad
  split
  · exact h
  · dsimp only
    exact Still.runPass (h.settled rfl rfl rfl (settleExperm_expermOk _))

theorem Still.requestHeadroomOverride {v e : Nat} (h : Still s t) : Still s (requestHeadroomOverride v e t).1 := by
  unfold Machine.requestHeadroomOverride
  split
  · exact h
  · split
    · exact h
    · dsimp only
      exact Still.runPass (h.settings rfl rfl rfl rfl rfl)

theorem Still.requestCall {id start stop target m : Nat} (h : Still s t) : Still s (requestCall id start stop target m t).1 := by
  unfold Machine.requestCall
  split
  · exact h
  · dsimp only
    split
    · exact h
    · dsimp only
      split
      · exact Still.startFirst (Still.raiseBoth h.mapEvq)
      · exact Still.raiseBoth h.mapEvq

theorem Still.requestRevise {id target stop : Nat} (h : Still s t) : Still s (requestRevise id target stop t).1 := by
  refine Still.takeAfterRequest ?_
  unfold reviseNamed
  split
  · exact h
  · split
    · exact h
    · exact Still.raiseBoth h.mapEvq

theorem Still.requestCancel {id : Nat} (h : Still s t) : Still s (requestCancel id t).1 := by
  refine Still.takeAfterRequest ?_
  unfold cancelNamed
  split
  · exact h
  · split
    · exact Still.raiseBoth h.mapEvq
    · exact h.endActive

theorem Still.requestOffer {start stop : Nat} (h : Still s t) : Still s (requestOffer start stop t).1 := by
  unfold Machine.requestOffer
  dsimp only
  split
  · exact h
  · split
    · exact h
    · split <;> exact h

theorem Still.requestResult {id first : Nat} (h : Still s t) : Still s (requestResult id first t).1 := by
  unfold Machine.requestResult
  split
  · exact h
  · exact h.same rfl rfl rfl

theorem Still.requestPlanLoad {v dep energy : Nat} {a b : Bool} (h : Still s t) : Still s (requestPlanLoad v dep energy a b t).1 := by
  unfold Machine.requestPlanLoad
  dsimp only
  split
  · exact h
  · split
    · exact h
    · split
      · exact h
      · exact Still.checkDueOf h.mapPlans

theorem Still.requestPlanDelete {v : Nat} (h : Still s t) : Still s (requestPlanDelete v t).1 := by
  unfold Machine.requestPlanDelete
  split
  · exact h
  · exact h.mapPlans

theorem Still.requestPlanOne {v : Nat} (h : Still s t) : Still s (requestPlanOne v t).1 := by
  unfold Machine.requestPlanOne
  split <;> exact h

theorem Still.requestLockout {v : Nat} (h : Still s t) : Still s (requestLockout v t).1 := by
  unfold Machine.requestLockout
  split
  · exact h
  · dsimp only
    exact Still.runPass h.mapPlans

theorem Still.requestHold {v : Nat} (h : Still s t) : Still s (requestHold v t).1 := by
  unfold Machine.requestHold
  split
  · exact h
  · dsimp only
    split <;> exact h.mapPlans

theorem Still.requestHoldClear {v : Nat} (h : Still s t) : Still s (requestHoldClear v t).1 := by
  unfold Machine.requestHoldClear
  split
  · exact h
  · exact h.mapPlans

theorem Still.requestParameterSet {id v : Nat} (h : Still s t) : Still s (requestParameterSet id v t).1 := by
  unfold Machine.requestParameterSet
  split
  · exact h
  · unfold writeParameter
    dsimp only
    split <;> exact h.settings rfl rfl rfl rfl rfl

theorem Still.requestParameterQuery {id : Nat} (h : Still s t) : Still s (requestParameterQuery id t).1 := by
  unfold Machine.requestParameterQuery
  split
  · exact h
  · split <;> exact h

theorem Still.requestRotationSet {y : Bool} {l : List Nat} (h : Still s t) : Still s (requestRotationSet y l t).1 := by
  unfold Machine.requestRotationSet
  split
  · exact h
  · split
    · exact h
    · split <;> exact h.same rfl rfl rfl

/-- A request naming a dock does what its act does (R23). -/
theorem Still.onDock {a : Nat} {act : Dock → State → State × Answer} (hact : ∀ d, Still s (act d t).1) (h : Still s t) :
    Still s (onDock a act t).1 := by
  unfold Machine.onDock
  split
  · exact h
  · exact hact _

theorem Still.requestDockManual {a : Nat} {v : Int} (h : Still s t) : Still s (requestDockManual a v t).1 := by
  refine h.onDock fun d => ?_
  dsimp only
  split
  · exact h.same rfl rfl rfl
  · exact h

theorem Still.requestDockEnable {a : Nat} (h : Still s t) : Still s (requestDockEnable a t).1 := by
  refine h.onDock fun d => ?_
  split
  · exact h.modifyDock
  · exact h

theorem Still.requestDockDisable {a : Nat} (h : Still s t) : Still s (requestDockDisable a t).1 := by
  refine h.onDock fun d => ?_
  dsimp only
  split
  · exact h
  · exact h.disableDock

theorem Still.requestDockClear {a : Nat} (h : Still s t) : Still s (requestDockClear a t).1 := by
  refine h.onDock fun d => ?_
  dsimp only
  split
  · split
    · exact h.leaveFaulted
    · exact h.same rfl rfl rfl
    · exact h
  · exact h

theorem Still.requestEchoTest {a n : Nat} (h : Still s t) : Still s (requestEchoTest a n t).1 := by
  refine h.onDock fun d => ?_
  split
  · exact h
  · split
    · exact h
    · split
      · exact h
      · next hrunning =>
        split
        · exact h
        · split
          · exact h
          · next hnet => exact h.ofNet (startEcho_kept a n hrunning (not_not.mp hnet)) rfl rfl

theorem Still.requestDockQuery {a : Nat} (h : Still s t) : Still s (requestDockQuery a t).1 := by
  unfold Machine.requestDockQuery
  split
  · exact h
  · exact h.onDock fun _ => h

/-- The request moves the Depot Clock (R157, R158). -/
def SetsClock : Request → Bool
  | .timeSet _ => true
  | .timeTrim _ => true
  | _ => false

/-- The owner of a request that does not move the clock moves neither it nor the trip state. -/
theorem Still.runRequest {l : Link} {q : Request} (hq : SetsClock q = false) (h : Still s t) : Still s (runRequest l q t).1 := by
  cases q with
  | timeSet => cases hq
  | timeTrim => cases hq
  | headroomLoad => exact h.requestHeadroomLoad
  | headroomOverride => exact h.requestHeadroomOverride
  | tripHoldoffSet => exact h.settings rfl rfl rfl rfl rfl
  | dispatchCall => exact h.requestCall
  | dispatchRevise => exact h.requestRevise
  | dispatchCancel => exact h.requestCancel
  | offerQuery => exact h.requestOffer
  | resultQuery => exact h.requestResult
  | planLoad => exact h.requestPlanLoad
  | planDelete => exact h.requestPlanDelete
  | planQuery =>
    unfold Machine.runRequest
    dsimp only
    split
    · exact h.requestPlanOne
    · split <;> exact h
  | holdSet =>
    unfold Machine.runRequest
    dsimp only
    split
    · exact h.requestLockout
    · split
      · exact h.requestHold
      · exact h
  | holdClear => exact h.requestHoldClear
  | parameterSet => exact h.requestParameterSet
  | parameterQuery => exact h.requestParameterQuery
  | rotationSet => exact h.requestRotationSet
  | groupSet => exact h.onDock fun _ => h.same rfl rfl rfl
  | dockManual => exact h.requestDockManual
  | dockAuto => exact h.onDock fun _ => h.modifyDock
  | dockEnable => exact h.requestDockEnable
  | dockDisable => exact h.requestDockDisable
  | dockClear => exact h.requestDockClear
  | netRestart => exact h.restartNet
  | echoTest => exact h.requestEchoTest
  | echoQuery => exact h
  | queueQuery =>
    unfold Machine.runRequest
    dsimp only
    split
    · exact h
    · split <;> exact h
  | siteQuery => exact h
  | clockQuery => exact h
  | linkQuery => exact h.mapPort (l := l) (f := fun p => { p with badFrames := 0, overruns := 0, droppedNotices := 0 })
  | dockQuery => exact h.requestDockQuery

end Sys2Proof.SiteLimits
end

section
/-! What moves the clock: a counted second, TIME SET and TIME TRIM, on a link as in a row (R156 to R160). -/

namespace Sys2Proof.SiteLimits

open Sys2Proof Sys2Proof.Machine Sys2Proof.RoutePlans
open Sys2Proof.Dispatch (rolledOver trimmed trimMove trimClock_eq wasSet setMove setClock_eq)

/-- What is safe, with the trip state as it was and a sound clock sound. -/
structure Steady (s t : State) : Prop extends Safe s t where
  trip : t.slu.trip = s.slu.trip
  clock : s.ClockOk → t.ClockOk

variable {s t u : State}

theorem clockOk_congr (h : t.dck = s.dck) (hs : s.ClockOk) : t.ClockOk :=
  ⟨h ▸ hs.depot_range, h ▸ hs.depot_divider, h ▸ hs.uptime_range, h ▸ hs.uptime_divider, h ▸ hs.unset⟩

theorem Still.steady (h : Still s t) : Steady s t := ⟨h.toSafe, h.trip, clockOk_congr h.dck⟩

theorem Steady.trans (h : Steady s t) (k : Steady t u) : Steady s u :=
  ⟨h.toSafe.trans k.toSafe, k.trip.trans h.trip, k.clock ∘ h.clock⟩

/-- Where the clock alone is moved, and EXPERM is right after. -/
theorem Steady.of_clock (hn : t.dnc = s.dnc) (ht : t.slu.trip = s.slu.trip) (he : s.ExpermOk → t.ExpermOk) (hk : s.ClockOk → t.ClockOk) :
    Steady s t :=
  ⟨.of_netKept (hn ▸ .refl _) (ht.trans ·) he, ht, hk⟩

theorem Still.rolledOver {roll : Bool} (h : Still s t) : Still s (rolledOver roll t) := by
  cases roll with
  | false => exact h
  | true => exact h.rollover

/-! ### A counted depot second (R156) -/

/-- The clock after a depot second: counted while it runs below its end (R156). -/
def secondCounted (k : Dck) : Dck :=
  if k.running = true ∧ k.depotTime < depotTimeMax then { k with depotTime := k.depotTime + 1, depotDivider := 0 } else k

/-- A depot second moves the clock on, and what it delivers moves neither clock nor trip state. -/
theorem takeDepotSecond_still (s : State) : Still { s with dck := secondCounted s.dck } (takeDepotSecond s) := by
  unfold takeDepotSecond countDepotSecond secondCounted
  split
  · next hc =>
    rw [if_pos (by exact hc)]
    dsimp only
    split
    · exact Still.deliver (Still.rollover ((Still.refl _).same rfl rfl rfl))
    · exact Still.deliver ((Still.refl _).same rfl rfl rfl)
  · next hc =>
    rw [if_neg (by exact hc)]
    exact (Still.refl _).drawn

theorem takeDepotSecond_dck (s : State) : (takeDepotSecond s).dck = secondCounted s.dck := (takeDepotSecond_still s).dck

theorem secondCounted_running (k : Dck) : (secondCounted k).running = k.running := by
  unfold secondCounted
  split <;> rfl

theorem takeDepotSecond_steady (s : State) : Steady s (takeDepotSecond s) := by
  have hmoved : Steady s { s with dck := secondCounted s.dck } := by
    refine .of_clock rfl rfl (expermOk_congr rfl rfl rfl (secondCounted_running s.dck)) fun h => ?_
    by_cases hc : s.dck.running = true ∧ s.dck.depotTime < depotTimeMax
    · rw [secondCounted, if_pos hc]
      exact ⟨hc.2, Nat.succ_pos _, h.uptime_range, h.uptime_divider, fun hr => by cases hc.1.symm.trans hr⟩
    · rw [secondCounted, if_neg hc]
      exact h
  exact hmoved.trans (takeDepotSecond_still s).steady

/-! ### TIME SET and TIME TRIM (R157, R158) -/

theorem setClock_steady (order : List Moment) {n : Nat} (hn : n ≤ depotTimeMax) (s : State) : Steady s (setClock order n s) := by
  rw [setClock_eq]
  have hset : Steady s (wasSet n s) := .of_clock rfl rfl (fun _ => settleExperm_expermOk _) fun h =>
    ⟨hn, Nat.succ_pos _, h.uptime_range, h.uptime_divider, nofun⟩
  exact hset.trans (Still.refl (wasSet n s)).rolledOver.deliver.steady

theorem trimmedTime_le (s : State) (d : Int) : trimmedTime s d ≤ depotTimeMax := by
  unfold trimmedTime clampInt
  omega

theorem trimClock_steady (order : List Moment) (d : Int) (hr : s.dck.running = true) : Steady s (trimClock order d s) := by
  rw [trimClock_eq]
  have hset : Steady s (trimmed d s) := .of_clock rfl rfl (expermOk_congr rfl rfl rfl rfl) fun h =>
    ⟨trimmedTime_le s d, h.depot_divider, h.uptime_range, h.uptime_divider, fun hc => by cases hr.symm.trans hc⟩
  exact hset.trans (Still.refl (trimmed d s)).rolledOver.deliver.steady

theorem requestTimeSet_steady (n : Nat) (s : State) : Steady s (requestTimeSet n s).1 := by
  unfold requestTimeSet
  split
  · exact (Still.refl s).steady
  · split
    · exact (Still.refl s).steady
    · exact (Still.refl s).drawn.steady.trans (setClock_steady _ (by omega) _)

theorem requestTimeTrim_steady (d : Int) (s : State) : Steady s (requestTimeTrim d s).1 := by
  unfold requestTimeTrim
  split
  · exact (Still.refl s).steady
  · next hr =>
    split
    · exact (Still.refl s).steady
    · exact (Still.refl s).drawn.steady.trans (trimClock_steady _ _ (by simpa using hr))

theorem runRequest_steady (l : Link) (q : Request) (s : State) : Steady s (runRequest l q s).1 := by
  cases hq : SetsClock q with
  | false => exact ((Still.refl s).runRequest hq).steady
  | true =>
    cases q with
    | timeSet n => exact requestTimeSet_steady n s
    | timeTrim d => exact requestTimeTrim_steady d s
    | _ => cases hq

/-! ### Requests through the ports (R182 to R184) -/

/-- What a link can do: on the Fleet Link the clock stays too. -/
structure OnLink (l : Link) (s t : State) : Prop where
  steady : Steady s t
  still : l = .fleet → Still s t

variable {l : Link}

theorem Still.onLink (h : Still s t) : OnLink l s t := ⟨h.steady, fun _ => h⟩

theorem OnLink.trans (h : OnLink l s t) (k : OnLink l t u) : OnLink l s u :=
  ⟨h.steady.trans k.steady, fun hl => (h.still hl).trans (k.still hl)⟩

theorem OnLink.mapPort {m : Link} {f : Port → Port} (h : OnLink l s t) : OnLink l s (t.mapPort m f) :=
  h.trans (Still.refl t).mapPort.onLink

/-- The Fleet Link carries no request that moves the clock (R183 check 2). -/
theorem setsClock_of_fleet {kind : Byte} {body : List Byte} {q : Request} (h : readRequest .fleet kind body = .ok q) :
    SetsClock q = false := by
  unfold readRequest at h
  split at h
  · cases h
  · next k _ =>
    split at h
    · cases h
    · next hp =>
      split at h
      · cases h
      · cases h
        cases k with
        | timeSet => exact absurd (by decide) hp
        | timeTrim => exact absurd (by decide) hp
        | _ => rfl

theorem answerRequest_onLink (l : Link) (f : LinkFrame) (s : State) : OnLink l s (answerRequest l f s).1 := by
  unfold answerRequest
  split
  · exact (Still.refl s).onLink
  · next q hq => exact ⟨runRequest_steady l q s, fun hl => (Still.refl s).runRequest (setsClock_of_fleet (hl ▸ hq))⟩

theorem takeFirst_onLink (l : Link) (s : State) : OnLink l s (takeFirst l s) := by
  unfold takeFirst
  split
  · split
    · exact (Still.refl s).onLink
    · exact (answerRequest_onLink l _ s).mapPort
  · exact (Still.refl s).onLink

theorem takeGoodFrame_onLink (l : Link) (f : LinkFrame) (s : State) : OnLink l s (takeGoodFrame l f s) := by
  unfold takeGoodFrame
  split
  · exact ((Still.refl s).mapPort.onLink.trans (takeFirst_onLink l _)).mapPort
  · exact (Still.refl s).mapPort.onLink

theorem frameSent_onLink (l : Link) (s : State) : OnLink l s (frameSent l s) := by
  unfold frameSent
  split
  · exact (Still.refl s).onLink
  · exact ((Still.refl s).mapPort.onLink.trans (takeFirst_onLink l _)).mapPort
  · exact (Still.refl s).mapPort.onLink

theorem Still.answered {l : Link} {f : LinkFrame} {owner : State → State × Answer} (howner : ∀ u, Still u (owner u).1) (h : Still s t) :
    Still s (answered l f owner t) :=
  (h.mapPort.trans (howner _)).mapPort

theorem answered_steady (l : Link) (f : LinkFrame) (q : Request) (s : State) : Steady s (answered l f (runRequest l q) s) :=
  ((Still.refl s).mapPort.steady.trans (runRequest_steady l q _)).trans (Still.refl _).mapPort.steady

end Sys2Proof.SiteLimits
end

section
/-! The trip line: release, hold-off and the return to NORMAL (R129 to R132); and each of its events in the Dock Net (R128, R173). -/

namespace Sys2Proof.SiteLimits

open Sys2Proof Sys2Proof.Machine Sys2Proof.RoutePlans Sys2Proof.Allocation
open Sys2Proof.RestRotation (timerDue_some)

variable {s t u : State}

/-! ### Release and resumption (R129, R130) -/

/-- The Site Limit Unit once the hold-off runs (R129). -/
def heldOff (uptime : Nat) (w : Slu) : Slu :=
  { w with trip := .holdoff, lineAsserted := false, holdoffTimer := some (expiryAfter uptime w.holdoff) }

/-- The notice that tells of a release (R131). -/
def releaseNotice (s : State) : Notice :=
  .trip .released .holdoff s.slu.tripCount s.slu.tripSeconds (some (expiryAfter s.dck.uptime s.slu.holdoff)) s.dck.uptime
    (if s.dck.running then s.dck.depotTime else 0)

theorem releaseTrip_eq (h : s.slu.trip = .tripped) :
    releaseTrip s = raiseBoth (releaseNotice s) { s with slu := heldOff s.dck.uptime s.slu } := if_pos h

/-- The Site Limit Unit back in NORMAL, EXPERM following the clock and the table (R130, R132). -/
def resumedSlu (s : State) : Slu := { s.slu with trip := .normal, holdoffTimer := none, experm := s.dck.running && s.slu.tableValid }

/-- The notice that tells of the return to NORMAL (R131). -/
def resumedNotice (s : State) : Notice :=
  .trip .resumed .normal s.slu.tripCount s.slu.tripSeconds none s.dck.uptime (if s.dck.running then s.dck.depotTime else 0)

theorem expireHoldoff_due (h : holdoffDue s = true) :
    expireHoldoff s = raiseBoth (resumedNotice s) (runPass { s with slu := resumedSlu s }) := by
  have hs : settleExperm { s with slu.trip := .normal, slu.holdoffTimer := none } = { s with slu := resumedSlu s } := rfl
  rw [expireHoldoff, if_pos h, hs]
  simp only [tripNotice, runPass_slu, runPass_dck]
  rfl

theorem expireHoldoff_not_due (h : holdoffDue s = false) : expireHoldoff s = s := if_neg (by simp [h])

/-- Settles O33: the release is one update with its notice, the resumption one update with its pass and its notice. -/
theorem tripReleaseAndHoldoffResume : Obligations.TripReleaseAndHoldoffResume := by
  intro s
  refine ⟨fun ht => by exact congrArg Host.Outcome.next (releaseTrip_eq ht), fun ht e he hdue => ?_⟩
  have hh : holdoffDue s = true := by
    rw [holdoffDue, ht, Option.mem_def.mp he, timerDue_some.mpr hdue]
    rfl
  have hslu : (raiseBoth (resumedNotice s) (runPass { s with slu := resumedSlu s })).slu = resumedSlu s := by simp
  refine ⟨_, congrArg Host.Outcome.next (expireHoldoff_due hh), hslu, ?_⟩
  rw [hslu]
  simp only [raiseBoth_alc, raiseBoth_evq, raiseBoth_dck, raiseBoth_docks, raiseBoth_rpt, raiseBoth_dnc, raiseBoth_tly, raiseBoth_rot,
    raiseBoth_grid, raiseBoth_fleet, runPass_previousPass, runPass_evq, runPass_dck, runPass_grid, true_and]
  exact ⟨rfl, rfl⟩

/-! ### The events of the trip line in the Dock Net (R127 to R130) -/

/-- A release leaves the Dock Net, and EXPERM deasserted. -/
theorem releaseTrip_safe (h : s.slu.trip = .tripped) : Safe s (releaseTrip s) := by
  rw [releaseTrip_eq h]
  refine .of_netKept (by simpa using .refl s.dnc) (fun hn => by cases h.symm.trans hn) fun he => ?_
  have hlow : s.slu.experm = false := by rw [expermOk_iff.mp he, expermCondition, h]; rfl
  refine expermOk_iff.mpr ?_
  simp [expermCondition, heldOff, hlow]

/-- In NORMAL no quiet is asked of the Dock Net (R128). -/
theorem Safe.of_normal (hn : NetKept s.dnc t.dnc) (ht : t.slu.trip = .normal) (he : t.ExpermOk) : Safe s t :=
  .of_netKept hn (fun _ => ht) fun _ => he

/-- What an uptime second can do to the trip state: nothing, or end the hold-off (R130). -/
structure Resumes (s t : State) : Prop extends Safe s t where
  trip : t.slu.trip = s.slu.trip ∨ (s.slu.trip = .holdoff ∧ t.slu.trip = .normal)
  dck : t.dck = s.dck

theorem Still.resumes (h : Still s t) : Resumes s t := ⟨h.toSafe, .inl h.trip, h.dck⟩

theorem Resumes.trans (h : Resumes s t) (k : Resumes t u) : Resumes s u := by
  refine ⟨h.toSafe.trans k.toSafe, ?_, k.dck.trans h.dck⟩
  rcases h.trip with ht | ⟨hs, ht⟩ <;> rcases k.trip with kt | ⟨kt, ku⟩
  · exact .inl (kt.trans ht)
  · exact .inr ⟨ht.symm.trans kt, ku⟩
  · exact .inr ⟨hs, kt.trans ht⟩
  · exact .inr ⟨hs, ku⟩

/-- What can only end the hold-off stays in NORMAL. -/
theorem Resumes.stays (h : Resumes s t) (hs : s.slu.trip = .normal) : t.slu.trip = .normal := by
  rcases h.trip with ht | ⟨-, ht⟩
  · exact ht.trans hs
  · exact ht

/-- What comes into NORMAL so has been in the hold-off. -/
theorem Resumes.ends (h : Resumes s t) (hs : s.slu.trip ≠ .normal) (ht : t.slu.trip = .normal) : s.slu.trip = .holdoff := by
  rcases h.trip with h' | ⟨h', -⟩
  · exact absurd (h'.symm.trans ht) hs
  · exact h'

theorem expireHoldoff_resumes (s : State) : Resumes s (expireHoldoff s) := by
  cases h : holdoffDue s with
  | false =>
    rw [expireHoldoff_not_due h]
    exact (Still.refl s).resumes
  | true =>
    rw [expireHoldoff_due h]
    have hslu : Safe s { s with slu := resumedSlu s } := .of_normal (.refl s.dnc) rfl (expermOk_iff.mpr rfl)
    have hpass : Still { s with slu := resumedSlu s } (raiseBoth (resumedNotice s) (runPass { s with slu := resumedSlu s })) :=
      (Still.refl _).runPass.raiseBoth
    have hhold : s.slu.trip = .holdoff := by simpa using (Bool.and_eq_true_iff.mp h).1
    exact ⟨hslu.trans hpass.toSafe, .inr ⟨hhold, hpass.trip⟩, hpass.dck⟩

/-- An assertion, in any state: what it queues is a CEASE and zeros (R127, R173, R83). -/
theorem assertTrip_safe (s : State) : Safe s (assertTrip s) ∧ (assertTrip s).dck = s.dck ∧ (assertTrip s).slu.trip = .tripped := by
  by_cases h : s.slu.trip = .tripped
  · have hsame : assertTrip s = s := if_pos h
    rw [hsame]
    exact ⟨.refl s, rfl, h⟩
  · have hassert : assertTrip s = raiseBoth (assertionNotice s) (stopped s) := by
      have hexec := exec_tripAssertion h
      injection hexec
    obtain ⟨-, -, -, -, -, hdck⟩ := stopped_rest s
    rw [hassert]
    refine ⟨⟨fun hn => ?_, fun hn _ => tripQuiet_iff.mpr fun _ => ?_, fun _ => expermOk_iff.mpr ?_⟩, by rw [raiseBoth_dck, hdck],
      by rw [raiseBoth_slu]; rfl⟩
    · rw [netOk_iff, raiseBoth_dnc, stopped_dnc]
      exact runPass_sound (ceased s) (enqueueCease_sound (netOk_iff.mp hn))
    · rw [raiseBoth_dnc]
      exact stopped_noFlow hn
    · rw [expermCondition, raiseBoth_slu]
      rfl

/-! ### The uptime second (R155) -/

theorem takeAdvance_resumes (due : Bool) (s : State) (o : UptimeOwner) : Resumes s (takeAdvance due s o) := by
  have h := Still.refl s
  cases o with
  | tripSeconds => exact h.countTripSecond.resumes
  | allocation =>
    unfold takeAdvance
    dsimp only
    split
    · exact h.runPass.resumes
    · exact h.resumes
  | holdoff => exact expireHoldoff_resumes s
  | intervalA => exact h.expireIntervalA.resumes
  | intervalB => exact h.expireIntervalB.resumes
  | recovery => exact h.expireRecovery.resumes
  | quiet l => exact h.mapPort.resumes
  | report d => exact h.reportTimeout.resumes
  | grace d => exact h.silentGrace.resumes

/-- The clock after an uptime second (R155). -/
def uptimeCounted (k : Dck) : Dck := { k with uptime := (k.uptime + 1) % wordModulus, uptimeDivider := 0 }

/-- An uptime second moves uptime on, and what it delivers ends at most the hold-off. -/
theorem takeUptimeSecond_resumes (s : State) : Resumes { s with dck := uptimeCounted s.dck } (takeUptimeSecond s) :=
  foldl_keeps_pred (Resumes { s with dck := uptimeCounted s.dck }) _ _ (fun v o _ hv => hv.trans (takeAdvance_resumes _ v o)) _
    (Still.refl { s with dck := uptimeCounted s.dck }).drawn.resumes

theorem takeUptimeSecond_dck (s : State) : (takeUptimeSecond s).dck = uptimeCounted s.dck := (takeUptimeSecond_resumes s).dck

theorem takeUptimeSecond_safe (s : State) : Safe s (takeUptimeSecond s) := by
  have hmoved : Safe s { s with dck := uptimeCounted s.dck } := .of_netKept (.refl s.dnc) id (expermOk_congr rfl rfl rfl rfl)
  exact hmoved.trans (takeUptimeSecond_resumes s).toSafe

theorem takeUptimeSecond_clockOk (h : s.ClockOk) : (takeUptimeSecond s).ClockOk := by
  have hk := takeUptimeSecond_dck s
  have hmod : (s.dck.uptime + 1) % wordModulus < wordModulus := Nat.mod_lt _ (Nat.succ_pos _)
  exact ⟨hk ▸ h.depot_range, hk ▸ h.depot_divider, hk ▸ hmod, hk ▸ Nat.succ_pos _, hk ▸ h.unset⟩

/-! ### One period of the time base (R155, R156) -/

/-- The clock within a period: a divider may have reached its end, the depot divider only while the clock counts. -/
structure Counting (k : Dck) : Prop where
  depot_range : k.depotTime ≤ depotTimeMax
  uptime_range : k.uptime < wordModulus
  uptime_divider : k.uptimeDivider ≤ 32768
  depot_divider : k.depotDivider ≤ 32768
  counts : 32768 ≤ k.depotDivider → k.running = true ∧ k.depotTime < depotTimeMax
  unset : k.running = false → k.depotTime = 0 ∧ k.depotDivider = 0

/-- The clock after an event of a period. -/
def clockAfter (k : Dck) : PeriodEvent → Dck
  | .uptimeSecond => if 32768 ≤ k.uptimeDivider then uptimeCounted k else k
  | .depotSecond => if 32768 ≤ k.depotDivider then secondCounted k else k
  | .echoWait => k

theorem takePeriodEvent_dck (s : State) (e : PeriodEvent) : (takePeriodEvent s e).dck = clockAfter s.dck e := by
  unfold takePeriodEvent clockAfter
  cases e with
  | uptimeSecond =>
    simp only [PeriodEvent.due, decide_eq_true_eq]
    exact (apply_ite State.dck _ _ _).trans (by rw [takeUptimeSecond_dck]; rfl)
  | depotSecond =>
    simp only [PeriodEvent.due, decide_eq_true_eq]
    exact (apply_ite State.dck _ _ _).trans (by rw [takeDepotSecond_dck]; rfl)
  | echoWait =>
    dsimp only
    split
    · exact (Still.refl s).expireEchoWait.dck
    · rfl

theorem takePeriodEvent_safe (s : State) (e : PeriodEvent) : Safe s (takePeriodEvent s e) := by
  unfold takePeriodEvent
  split
  · cases e with
    | uptimeSecond => exact takeUptimeSecond_safe s
    | depotSecond => exact (takeDepotSecond_steady s).toSafe
    | echoWait => exact (Still.refl s).expireEchoWait.toSafe
  · exact .refl s

theorem takePeriod_safe (s : State) : Safe s (takePeriod s) := by
  have hc : Safe s (countPeriod s) := .of_netKept (wait_kept _ _) id (expermOk_congr rfl rfl rfl rfl)
  unfold takePeriod
  dsimp only
  split
  · exact hc
  · exact foldl_keeps_pred (Safe s) _ _ (fun v e _ hv => hv.trans (takePeriodEvent_safe v e)) _
      (hc.trans (Still.refl (countPeriod s)).drawn.toSafe)

/-- An event of a period keeps the clock, and returns its own divider to 0. -/
theorem clockAfter_counting {k : Dck} (h : Counting k) (e : PeriodEvent) : Counting (clockAfter k e) ∧
    (e = .uptimeSecond ∨ k.uptimeDivider < 32768 → (clockAfter k e).uptimeDivider < 32768) ∧
    (e = .depotSecond ∨ k.depotDivider < 32768 → (clockAfter k e).depotDivider < 32768) := by
  obtain ⟨hdepot, huptime, hud, hdd, hcounts, hunset⟩ := h
  cases e with
  | uptimeSecond =>
    by_cases hdue : 32768 ≤ k.uptimeDivider
    · rw [clockAfter, if_pos hdue]
      exact ⟨⟨hdepot, Nat.mod_lt _ (Nat.succ_pos _), Nat.zero_le _, hdd, hcounts, hunset⟩, fun _ => Nat.succ_pos _,
        by simp [uptimeCounted]⟩
    · rw [clockAfter, if_neg hdue]
      exact ⟨⟨hdepot, huptime, hud, hdd, hcounts, hunset⟩, fun _ => by omega, by simp⟩
  | depotSecond =>
    by_cases hdue : 32768 ≤ k.depotDivider
    · obtain ⟨hr, hlt⟩ := hcounts hdue
      rw [clockAfter, if_pos hdue, secondCounted, if_pos ⟨hr, hlt⟩]
      exact ⟨⟨hlt, huptime, hud, Nat.zero_le _, fun hc => absurd hc (by simp), fun hc => by cases hr.symm.trans hc⟩, by simp,
        fun _ => Nat.succ_pos _⟩
    · rw [clockAfter, if_neg hdue]
      exact ⟨⟨hdepot, huptime, hud, hdd, hcounts, hunset⟩, by simp, fun _ => by omega⟩
  | echoWait => exact ⟨⟨hdepot, huptime, hud, hdd, hcounts, hunset⟩, by simp [clockAfter], by simp [clockAfter]⟩

/-- Once every event that was due has been taken, both dividers are below their end. -/
theorem foldl_clockAfter_counting (l : List PeriodEvent) {k : Dck} (h : Counting k) (hu : .uptimeSecond ∈ l ∨ k.uptimeDivider < 32768)
    (hd : .depotSecond ∈ l ∨ k.depotDivider < 32768) :
    Counting (l.foldl clockAfter k) ∧ (l.foldl clockAfter k).uptimeDivider < 32768 ∧ (l.foldl clockAfter k).depotDivider < 32768 := by
  induction l generalizing k with
  | nil => exact ⟨h, hu.resolve_left List.not_mem_nil, hd.resolve_left List.not_mem_nil⟩
  | cons e l ih =>
    obtain ⟨hk, hu', hd'⟩ := clockAfter_counting h e
    rw [List.mem_cons, or_right_comm] at hu hd
    exact ih hk (hu.symm.imp_right fun hc => hu' (hc.imp_left Eq.symm)) (hd.symm.imp_right fun hc => hd' (hc.imp_left Eq.symm))

theorem foldl_takePeriodEvent_dck (l : List PeriodEvent) (s : State) : (l.foldl takePeriodEvent s).dck = l.foldl clockAfter s.dck := by
  induction l generalizing s with
  | nil => rfl
  | cons e l ih => rw [List.foldl_cons, List.foldl_cons, ih, takePeriodEvent_dck]

theorem clockOk_of_counting (h : Counting s.dck) (hu : s.dck.uptimeDivider < 32768) (hd : s.dck.depotDivider < 32768) : s.ClockOk :=
  ⟨h.depot_range, hd, h.uptime_range, hu, h.unset⟩

theorem countPeriod_counting (h : s.ClockOk) : Counting (countPeriod s).dck := by
  obtain ⟨hdepot, hdd, huptime, hud, hunset⟩ := h
  by_cases hc : s.dck.running = true ∧ s.dck.depotTime < depotTimeMax
  · have hk : (countPeriod s).dck = { s.dck with uptimeDivider := s.dck.uptimeDivider + 1, depotDivider := s.dck.depotDivider + 1 } := by
      simp only [countPeriod, if_pos hc]
    rw [hk]
    exact ⟨hdepot, huptime, hud, hdd, fun _ => hc, fun hr => by cases hc.1.symm.trans hr⟩
  · have hk : (countPeriod s).dck = { s.dck with uptimeDivider := s.dck.uptimeDivider + 1 } := by simp only [countPeriod, if_neg hc]
    rw [hk]
    exact ⟨hdepot, huptime, hud, hdd.le, fun hfull => absurd hdd (Nat.not_lt.mpr hfull), hunset⟩

/-- A period keeps the clock sound: a divider that reaches its end in it is returned to 0 by its second. -/
theorem takePeriod_clockOk (h : s.ClockOk) : (takePeriod s).ClockOk := by
  have hk := countPeriod_counting h
  have hdue : ∀ e, e ∈ PeriodEvent.all.filter (PeriodEvent.due (countPeriod s)) ∨ e.due (countPeriod s) = false := fun e => by
    cases hc : e.due (countPeriod s) with
    | false => exact .inr rfl
    | true => exact .inl (List.mem_filter.mpr ⟨by cases e <;> decide, hc⟩)
  have hu : .uptimeSecond ∈ PeriodEvent.all.filter (PeriodEvent.due (countPeriod s)) ∨ (countPeriod s).dck.uptimeDivider < 32768 :=
    (hdue .uptimeSecond).imp_right fun hc => Nat.not_le.mp (of_decide_eq_false hc)
  have hd : .depotSecond ∈ PeriodEvent.all.filter (PeriodEvent.due (countPeriod s)) ∨ (countPeriod s).dck.depotDivider < 32768 :=
    (hdue .depotSecond).imp_right fun hc => Nat.not_le.mp (of_decide_eq_false hc)
  unfold takePeriod
  dsimp only
  split
  · next hnone =>
    rw [hnone] at hu hd
    exact clockOk_of_counting hk (hu.resolve_left List.not_mem_nil) (hd.resolve_left List.not_mem_nil)
  · obtain ⟨hfold, hu', hd'⟩ := foldl_clockAfter_counting (freeOrder (countPeriod s).draws _) hk
      (hu.imp_left (mem_freeOrder _ _ _).mpr) (hd.imp_left (mem_freeOrder _ _ _).mpr)
    have hdck := foldl_takePeriodEvent_dck (freeOrder (countPeriod s).draws (PeriodEvent.all.filter (PeriodEvent.due (countPeriod s))))
      (countPeriod s).drawn
    exact clockOk_of_counting (hdck ▸ hfold) (hdck ▸ hu') (hdck ▸ hd')

end Sys2Proof.SiteLimits
end

section
/-! Every command and every step: who moves the clock and the trip state, and what all of them keep. -/

namespace Sys2Proof.SiteLimits

open Sys2Proof Sys2Proof.Machine Sys2Proof.RoutePlans

variable {s t : State}

/-! ### A reset (R2, R126) -/

theorem reset_netSound : NetSound Dnc.reset :=
  ⟨⟨rfl, Nat.zero_le _, Nat.zero_le _, Nat.zero_le _⟩, ⟨.nil, nofun⟩, ⟨nofun, nofun, nofun, nofun⟩, nofun⟩

theorem afterReset_trip (tripLow : Bool) : (State.afterReset tripLow).slu.trip ≠ .normal := by
  cases tripLow <;> nofun

/-- The commands that act on the trip state, or on everything. -/
def ActsOnTrip : Instr → Bool
  | .deviceReset _ => true
  | .tripAssertion => true
  | .tripRelease => true
  | .holdoffExpiry => true
  | .uptimeSecond => true
  | _ => false

/-- The commands that act on depot time. -/
def ActsOnDepotTime : Instr → Bool
  | .depotSecond => true
  | .timeSet _ => true
  | .timeTrim _ => true
  | .goodFrame l _ _ => decide (l = .grid)
  | .linkFrameSent l => decide (l = .grid)
  | _ => false

/-! ### Commands apart from clock and trip line -/

/-- A request row but TIME SET and TIME TRIM leaves clock and trip state. -/
theorem request_still {c : Instr} {lq : Link × Request} (h : requestOf c = some lq) (hc : ActsOnDepotTime c = false) (s : State) :
    Still s (answered lq.1 lq.2.frame (runRequest lq.1 lq.2) s) := by
  have hq : SetsClock lq.2 = false := by
    cases c with
    | timeSet => cases hc
    | timeTrim => cases hc
    | _ => cases h <;> rfl
  exact (Still.refl s).answered fun u => (Still.refl u).runRequest hq

theorem exec_still {c : Instr} (ht : ActsOnTrip c = false) (hc : ActsOnDepotTime c = false) (s : State) :
    ∃ t, exec c s = .next t ∧ Still s t := by
  cases hq : requestOf c with
  | some lq => exact ⟨_, exec_request hq s, request_still hq hc s⟩
  | none =>
    have h := Still.refl s
    cases c with
    | status => exact ⟨_, rfl, h.receiveFrame⟩
    | echoReply => exact ⟨_, rfl, h.receiveFrame⟩
    | foreignFrame =>
      refine ⟨_, rfl, ?_⟩
      split
      · exact h
      · exact h.receiveForeign
    | frameInError =>
      refine ⟨_, rfl, ?_⟩
      split
      · exact h
      · exact h.receiveInError
    | transmitStart => exact ⟨_, rfl, h.mapDnc startAttempt_kept⟩
    | arbitrationLost => exact ⟨_, rfl, h.mapDnc returnFrame_kept⟩
    | transmitAttemptEnd => exact ⟨_, rfl, h.endAttempt⟩
    | recoveryTimerExpiry => exact ⟨_, rfl, h.expireRecovery⟩
    | echoWaitExpiry => exact ⟨_, rfl, h.expireEchoWait⟩
    | reportTimeout =>
      refine ⟨_, rfl, ?_⟩
      split
      · exact h.reportTimeout
      · exact h
    | silentGraceExpiry =>
      refine ⟨_, rfl, ?_⟩
      split
      · exact h.silentGrace
      · exact h
    | allocationTimerExpiry => exact ⟨_, rfl, h.expireAllocation⟩
    | dayRollover =>
      refine ⟨_, rfl, ?_⟩
      split
      · exact h.rollover
      · exact h
    | planDue => exact ⟨_, rfl, h.checkDueOf⟩
    | eventStart => exact ⟨_, rfl, h.startIfReached⟩
    | eventEnd => exact ⟨_, rfl, h.endIfReached⟩
    | settlementBoundary => exact ⟨_, rfl, h.settlementIfReached⟩
    | halfHourBoundary =>
      refine ⟨_, rfl, ?_⟩
      split
      · exact h.runPass
      · exact h
    | overrideExpiry => exact ⟨_, rfl, h.overrideIfReached⟩
    | intervalAExpiry => exact ⟨_, rfl, h.expireIntervalA⟩
    | intervalBExpiry => exact ⟨_, rfl, h.expireIntervalB⟩
    | meterExportPulse => exact ⟨_, rfl, h.same rfl rfl rfl⟩
    | meterImportPulse => exact ⟨_, rfl, h.same rfl rfl rfl⟩
    | goodFrame l =>
      cases l with
      | grid => cases hc
      | fleet => exact ⟨_, rfl, (takeGoodFrame_onLink .fleet _ s).still rfl⟩
    | badFrame => exact ⟨_, rfl, h.mapPort⟩
    | linkGapTimeout => exact ⟨_, rfl, h.mapPort⟩
    | quietTimerExpiry => exact ⟨_, rfl, h.mapPort⟩
    | linkFrameSent l =>
      cases l with
      | grid => cases hc
      | fleet => exact ⟨_, rfl, (frameSent_onLink .fleet s).still rfl⟩
    | unknownKindRequest =>
      refine ⟨_, rfl, ?_⟩
      split
      · exact h.answered Still.refl
      · exact h
    | syncByteBeginsFrame => exact ⟨_, rfl, h.mapPort⟩
    | deviceReset => cases ht
    | tripAssertion => cases ht
    | tripRelease => cases ht
    | holdoffExpiry => cases ht
    | uptimeSecond => cases ht
    | depotSecond => cases hc
    | _ => cases hq

/-- A command that does not act on the trip state leaves it, and a sound clock sound. -/
theorem exec_steady {c : Instr} (ht : ActsOnTrip c = false) (s : State) : ∃ t, exec c s = .next t ∧ Steady s t := by
  cases hc : ActsOnDepotTime c with
  | false =>
    obtain ⟨t, hexec, h⟩ := exec_still ht hc s
    exact ⟨t, hexec, h.steady⟩
  | true =>
    cases c with
    | depotSecond => exact ⟨_, rfl, takeDepotSecond_steady s⟩
    | timeSet t => exact ⟨_, rfl, answered_steady .grid _ (.timeSet t) s⟩
    | timeTrim d => exact ⟨_, rfl, answered_steady .grid _ (.timeTrim d) s⟩
    | goodFrame l => exact ⟨_, rfl, (takeGoodFrame_onLink l _ s).steady⟩
    | linkFrameSent l => exact ⟨_, rfl, (frameSent_onLink l s).steady⟩
    | _ => cases hc

/-! ### Every command -/

/-- A release, in any state (R129). -/
theorem releaseTrip_moves (s : State) : Safe s (releaseTrip s) ∧ (releaseTrip s).dck = s.dck ∧
    ((releaseTrip s).slu.trip = s.slu.trip ∨ (s.slu.trip = .tripped ∧ (releaseTrip s).slu.trip = .holdoff)) := by
  by_cases h : s.slu.trip = .tripped
  · refine ⟨releaseTrip_safe h, ?_, .inr ⟨h, ?_⟩⟩ <;> rw [releaseTrip_eq h]
    · exact raiseBoth_dck ..
    · rw [raiseBoth_slu]
      rfl
  · have hsame : releaseTrip s = s := if_neg h
    rw [hsame]
    exact ⟨.refl s, rfl, .inl rfl⟩

/-- What every command keeps: the Dock Net, its quiet outside NORMAL, EXPERM and the clock. -/
theorem exec_safe (c : Instr) (s : State) : ∃ t, exec c s = .next t ∧ Safe s t ∧ (s.ClockOk → t.ClockOk) := by
  cases ht : ActsOnTrip c with
  | false =>
    obtain ⟨t, hexec, h⟩ := exec_steady ht s
    exact ⟨t, hexec, h.toSafe, h.clock⟩
  | true =>
    cases c with
    | deviceReset b =>
      refine ⟨_, rfl, ⟨fun _ => netOk_iff.mpr reset_netSound, fun _ _ => tripQuiet_iff.mpr fun _ => ⟨nofun, nofun⟩, fun _ => ?_⟩,
        fun _ => ⟨Nat.zero_le _, Nat.succ_pos _, Nat.succ_pos _, Nat.succ_pos _, fun _ => ⟨rfl, rfl⟩⟩⟩
      exact ⟨nofun, fun h => absurd h.1 (afterReset_trip b)⟩
    | tripAssertion =>
      obtain ⟨h, hk, -⟩ := assertTrip_safe s
      exact ⟨_, rfl, h, clockOk_congr hk⟩
    | tripRelease =>
      obtain ⟨h, hk, -⟩ := releaseTrip_moves s
      exact ⟨_, rfl, h, clockOk_congr hk⟩
    | holdoffExpiry => exact ⟨_, rfl, (expireHoldoff_resumes s).toSafe, clockOk_congr (expireHoldoff_resumes s).dck⟩
    | uptimeSecond => exact ⟨_, rfl, takeUptimeSecond_safe s, takeUptimeSecond_clockOk⟩
    | _ => cases ht

/-- So does every step. -/
theorem step_safe (h : step s = .next t) : Safe s t ∧ (s.ClockOk → t.ClockOk) := by
  unfold step at h
  split at h
  · next c rest _ =>
    obtain ⟨u, hu, hs, hk⟩ := exec_safe c { s with pending := rest }
    cases h.symm.trans hu
    have hpopped : Still s { s with pending := rest } := (Still.refl s).same rfl rfl rfl
    exact ⟨hpopped.toSafe.trans hs, fun hc => hk (clockOk_congr (s := s) rfl hc)⟩
  · cases h
    exact ⟨takePeriod_safe s, takePeriod_clockOk⟩

/-- Settles O8. -/
theorem stepKeepsTheDockNetSoundAndQuietInATrip : Obligations.StepKeepsTheDockNetSoundAndQuietInATrip := fun _ _ hn hq hstep =>
  ⟨(step_safe hstep).1.net hn, (step_safe hstep).1.quiet hn hq⟩

/-- Settles O9. -/
theorem stepKeepsExpermAndTheClockSound : Obligations.StepKeepsExpermAndTheClockSound := fun _ _ he hk hstep =>
  ⟨(step_safe hstep).1.experm he, (step_safe hstep).2 hk⟩

/-- Settles O4: the commands that act on neither leave both; those on depot time leave the trip state; each of the other five on its own. -/
theorem onlyTheseCommandsMoveClockAndTripState : Obligations.OnlyTheseCommandsMoveClockAndTripState := by
  intro c s
  cases ht : ActsOnTrip c with
  | false =>
    cases hc : ActsOnDepotTime c with
    | false =>
      obtain ⟨t, hexec, h⟩ := exec_still ht hc s
      exact ⟨t, hexec, fun hk => absurd h.dck hk, fun hm => absurd h.trip hm, fun hs hn => absurd (h.trip.trans hs) hn,
        fun hs hn => absurd (h.trip.symm.trans hn) hs⟩
    | true =>
      obtain ⟨t, hexec, h⟩ := exec_steady ht s
      refine ⟨t, hexec, fun _ => ?_, fun hm => absurd h.trip hm, fun hs hn => absurd (h.trip.trans hs) hn,
        fun hs hn => absurd (h.trip.symm.trans hn) hs⟩
      cases c with
      | depotSecond => rfl
      | timeSet => rfl
      | timeTrim => rfl
      | goodFrame => exact hc
      | linkFrameSent => exact hc
      | _ => cases hc
  | true =>
    cases c with
    | deviceReset b => exact ⟨_, rfl, fun _ => rfl, fun _ => rfl, fun _ _ => rfl, fun _ hn => absurd hn (afterReset_trip b)⟩
    | tripAssertion =>
      obtain ⟨-, hk, htrip⟩ := assertTrip_safe s
      exact ⟨_, rfl, fun h => absurd hk h, fun _ => decide_eq_true htrip, fun _ _ => rfl, fun _ hn => by cases htrip.symm.trans hn⟩
    | tripRelease =>
      obtain ⟨-, hk, htrip⟩ := releaseTrip_moves s
      refine ⟨_, rfl, fun h => absurd hk h, fun h => decide_eq_true (htrip.resolve_left h), fun hs hn => ?_, fun hs hn => ?_⟩
      · rcases htrip with h | ⟨h, -⟩
        · exact absurd (h.trans hs) hn
        · cases hs.symm.trans h
      · rcases htrip with h | ⟨-, h⟩
        · exact absurd (h.symm.trans hn) hs
        · cases hn.symm.trans h
    | holdoffExpiry =>
      have h := expireHoldoff_resumes s
      exact ⟨_, rfl, fun hk => absurd h.dck hk, fun hm => decide_eq_true (h.trip.resolve_left hm), fun hs hn => absurd (h.stays hs) hn,
        fun hs hn => ⟨h.ends hs hn, rfl⟩⟩
    | uptimeSecond =>
      have h := takeUptimeSecond_resumes s
      exact ⟨_, rfl, fun _ => rfl, fun hm => decide_eq_true (h.trip.resolve_left hm), fun hs hn => absurd (h.stays hs) hn,
        fun hs hn => ⟨h.ends hs hn, rfl⟩⟩
    | _ => cases ht

end Sys2Proof.SiteLimits
end

section
/-! HEADROOM LOAD and HEADROOM OVERRIDE (R118, R120). -/

namespace Sys2Proof.SiteLimits

open Sys2Proof Sys2Proof.Machine Sys2Proof.RoutePlans
open Sys2Proof.Dispatch (asked_slu answering_slu doneOrClamped_body)

variable (s : State)

/-! ### HEADROOM LOAD (R118) -/

/-- The entries a load writes, from any place in its values on: each clamped, the others as they were. -/
theorem foldl_setIfInBounds_getElem (first n : Nat) (values : List Nat) (table : Vector Nat 48) (i : Fin 48) :
    ((values.zipIdx n).foldl (fun t e => t.setIfInBounds (first + e.2) (min e.1 24000)) table)[i] =
      if first + n ≤ i.val ∧ i.val < first + n + values.length then min (values.getD (i.val - (first + n)) 0) 24000 else table[i] := by
  induction values generalizing n table with
  | nil => simp
  | cons v l ih =>
    rw [List.zipIdx_cons, List.foldl_cons, ih]
    have hset := Vector.getElem_setIfInBounds (xs := table) (i := first + n) (x := min v 24000) i.isLt
    rcases Nat.lt_trichotomy i.val (first + n) with hi | hi | hi
    · rw [if_neg (by omega), if_neg (by omega)]
      exact hset.trans (if_neg (by omega))
    · rw [if_neg (by omega), if_pos ⟨hi.ge, by rw [List.length_cons]; omega⟩, Nat.sub_eq_zero_of_le hi.le,
        List.getD_cons_zero]
      exact hset.trans (if_pos hi.symm)
    · obtain ⟨k, hk⟩ := Nat.exists_eq_add_of_lt hi
      rw [show i.val - (first + n) = k + 1 by omega, show i.val - (first + (n + 1)) = k by omega,
        List.getD_cons_succ, List.length_cons]
      refine if_congr (by omega) rfl (hset.trans (if_neg (by omega)))

theorem writeHeadroom_getElem (first : Nat) (values : List Nat) (table : Vector Nat 48) (i : Fin 48) :
    (writeHeadroom first values table)[i] =
      if first ≤ i.val ∧ i.val < first + values.length then min (values.getD (i.val - first) 0) 24000 else table[i] :=
  foldl_setIfInBounds_getElem first 0 values table i

/-- The Site Limit Unit with a table loaded: valid, with its daily flag, EXPERM following (R118, R132). -/
def loadedSlu (first : Nat) (daily : Bool) (values : List Nat) (s : State) : Slu :=
  { s.slu with
    table := writeHeadroom first values s.slu.table, tableValid := true, daily := daily
    experm := decide (s.slu.trip = .normal) && s.dck.running }

section
variable (first : Nat) (daily : Bool) (values : List Nat)

theorem requestHeadroomLoad_refused (h : 47 < first ∨ values = [] ∨ 48 < first + values.length) :
    requestHeadroomLoad first daily values s = refuse .badLength s :=
  if_pos (by rwa [List.length_eq_zero_iff])

/-- A load that is not refused writes its table and runs a pass. -/
theorem requestHeadroomLoad_accepted (h : ¬(47 < first ∨ values = [] ∨ 48 < first + values.length)) :
    requestHeadroomLoad first daily values s = (runPass { s with slu := loadedSlu first daily values s },
      .doneOrClamped (values.any fun v => decide (24000 < v)) []) := by
  have hslu : settleExperm { s with
      slu.table := writeHeadroom first values s.slu.table, slu.tableValid := true, slu.daily := daily } =
      { s with slu := loadedSlu first daily values s } := by
    simp only [settleExperm, expermCondition, loadedSlu, Bool.and_true]
  rw [requestHeadroomLoad, if_neg (by rwa [List.length_eq_zero_iff]), hslu]

theorem loadedSlu_asked (c : Instr) : loadedSlu first daily values (s.asked c) = loadedSlu first daily values s := by
  simp only [loadedSlu, asked_slu, asked_dck]

theorem exec_headroomLoad : exec (.headroomLoad first daily values) s =
    let r := requestHeadroomLoad first daily values (s.asked (.headroomLoad first daily values))
    .next (r.1.answering .grid 0x92 r.2.body) :=
  exec_row (c := .headroomLoad first daily values) (l := .grid) (q := .headroomLoad first daily values) s rfl

end

/-! ### HEADROOM OVERRIDE (R120) -/

/-- The override a request leaves: its value clamped, or none when its expiry is not after now. -/
def overrideFrom (value expiry now : Nat) : Option Override :=
  if now < expiry then some { value := min value 24000, expiry := expiry } else none

theorem overrideFrom_isSome (value expiry now : Nat) : (overrideFrom value expiry now).isSome = decide (now < expiry) := by
  unfold overrideFrom
  split <;> simp [*]

section
variable {value expiry : Nat}

theorem requestHeadroomOverride_unset (h : s.dck.running = false) : requestHeadroomOverride value expiry s = refuse .clockUnset s := if_pos h

theorem requestHeadroomOverride_badTime (hr : ¬s.dck.running = false) (h : 4000000000 < expiry) :
    requestHeadroomOverride value expiry s = refuse .badTime s := by
  rw [requestHeadroomOverride, if_neg hr, if_pos (show depotTimeMax < expiry from h)]

/-- An override that is not refused is set or removed, and a pass runs. -/
theorem requestHeadroomOverride_accepted (hr : ¬s.dck.running = false) (h : ¬4000000000 < expiry) :
    requestHeadroomOverride value expiry s = (runPass { s with slu.limit := overrideFrom value expiry s.dck.depotTime },
      .doneOrClamped (decide (s.dck.depotTime < expiry) && decide (24000 < value)) [flagByte (decide (s.dck.depotTime < expiry))]) := by
  rw [requestHeadroomOverride, if_neg hr, if_neg (show ¬depotTimeMax < expiry from h), ← overrideFrom_isSome value expiry s.dck.depotTime]
  rfl

theorem exec_headroomOverride (value expiry : Nat) : exec (.headroomOverride value expiry) s =
    let r := requestHeadroomOverride value expiry (s.asked (.headroomOverride value expiry))
    .next (r.1.answering .grid 0x93 r.2.body) :=
  exec_row (c := .headroomOverride value expiry) (l := .grid) (q := .headroomOverride value expiry) s rfl

end

/-- Settles O48: each request is refused, or writes its part of the limits and runs one pass. -/
theorem headroomRequestsSetTheLimits : Obligations.HeadroomRequestsSetTheLimits := by
  intro first daily values value expiry s
  refine ⟨?_, ?_⟩
  · rw [exec_headroomLoad]
    split
    · next hbad =>
      rw [requestHeadroomLoad_refused _ _ _ _ hbad]
      rfl
    · next hgood =>
      rw [requestHeadroomLoad_accepted _ _ _ _ hgood, loadedSlu_asked]
      dsimp only
      refine ⟨_, rfl, ?_⟩
      rw [answering_slu, runPass_slu, doneOrClamped_body]
      exact ⟨writeHeadroom_getElem first values s.slu.table, rfl, rfl⟩
  · rw [exec_headroomOverride]
    split
    · next hunset =>
      rw [requestHeadroomOverride_unset _ (by rwa [asked_dck])]
      rfl
    · next hrun =>
      split
      · next hlate =>
        rw [requestHeadroomOverride_badTime _ (by rwa [asked_dck]) hlate]
        rfl
      · next hexp =>
        rw [requestHeadroomOverride_accepted _ (by rwa [asked_dck]) hexp, asked_dck, asked_slu]
        dsimp only
        rw [doneOrClamped_body]
        simp only [Bool.and_eq_true, decide_eq_true_eq, and_comm]
        rfl

end Sys2Proof.SiteLimits
end

section
/-! The revenue meter (R140, R141). -/

namespace Sys2Proof.EnergyTally

open Sys2Proof Sys2Proof.Machine

theorem meterSum_of_range {a b : Int} (hlow : -2147483648 ≤ a + b) (hhigh : a + b ≤ 2147483647) : meterSum a b = a + b :=
  if_pos ⟨hlow, hhigh⟩

/-- An edge of signed weight `v` on a tally, as the statement has it: both meter nets gain the weight, the rest stays. -/
theorem meterEdge_spec (v : Int) (y : Tally) :
    (-2147483648 ≤ y.meterNet + v → y.meterNet + v ≤ 2147483647 → (y.meterEdge v).meterNet = y.meterNet + v) ∧
    (-2147483648 ≤ y.interval.meterNet + v → y.interval.meterNet + v ≤ 2147483647 →
      (y.meterEdge v).interval.meterNet = y.interval.meterNet + v) ∧
    y.meterEdge v = { y with
      meterNet := (y.meterEdge v).meterNet, interval := { y.interval with meterNet := (y.meterEdge v).interval.meterNet } } :=
  ⟨meterSum_of_range, meterSum_of_range, rfl⟩

/-- Settles O43: an edge writes its site total and the meter nets of the open tally. -/
theorem meterPulsesAreCounted : Obligations.MeterPulsesAreCounted := by
  intro s w edge
  refine ⟨⟨meterExportEdge s, rfl, rfl, rfl, ?_, rfl⟩, ⟨meterImportEdge s, rfl, rfl, rfl, ?_, rfl⟩⟩
  · rw [meterExportEdge, State.mapTally_tly]
    cases s.tly.tally with
    | none => trivial
    | some y => exact meterEdge_spec _ y
  · rw [meterImportEdge, State.mapTally_tly]
    cases s.tly.tally with
    | none => trivial
    | some y => exact meterEdge_spec _ y

end Sys2Proof.EnergyTally
end

section
/-! RESULT QUERY (R153, R195). -/

namespace Sys2Proof.EnergyTally

open Sys2Proof Sys2Proof.Machine Sys2Proof.RoutePlans
open Sys2Proof.Dispatch (asked_tly)

variable (s : State)

/-! ### The result selected and marked (R153) -/

theorem mem_of_selectResult {id : Nat} {l : List Result} {x : Result} (h : selectResult id l = some x) : x ∈ l := by
  unfold selectResult at h
  split at h <;> exact List.mem_of_find?_eq_some h

/-- Where no event id stands twice, the results with the id of `x` are `x` alone. -/
theorem markRead_of_mem {l : List Result} (hids : (l.map Result.eventId).Nodup) {x : Result} (hx : x ∈ l) :
    markRead x.eventId l = l.map fun y => if y = x then { y with read := true } else y := by
  refine List.map_congr_left fun y hy => ?_
  have hid : y.eventId = x.eventId ↔ y = x := ⟨fun h => List.inj_on_of_nodup_map hids hy hx h, congrArg Result.eventId⟩
  simp only [hid]

theorem resultIds_nodup (h : s.EventsOk) : (s.tly.results.map Result.eventId).Nodup := (List.nodup_append.mp h.ids).2.1

/-! ### The fields of a result (R195) -/

theorem encodeInt_four (v : Int) : encodeInt 4 v = le32 (v % 4294967296).toNat := by
  rw [encodeInt, le32_eq]
  rfl

theorem encodeResult_eq (x : Result) : encodeResult x =
    le16 x.eventId ++ le32 x.start ++ le32 x.stop ++ [flagByte x.actualStart.isSome] ++ le32 (x.actualStart.getD 0) ++ le32 x.actualEnd ++
      [x.cause.code] ++ le16 x.committedInitial ++ le16 x.committedFinal ++ le32 (x.meterNet % 4294967296).toNat ++ le32 x.dockExport ++
      le32 x.dockIntake ++
      [BitVec.ofNat 8 x.intervalsTotal, BitVec.ofNat 8 x.intervalsMet, BitVec.ofNat 8 x.worst, BitVec.ofNat 8 x.divergent] ++
      le16 x.peakShortfall ++ le16 x.tripSeconds ++ le16 x.yields := by
  simp only [encodeResult, encodeOption, le16_eq, le32_eq, encodeInt_four, List.append_assoc]
  rfl

theorem encodeParticipants_eq (n first : Nat) (l : List (Nat × Nat)) : encodeParticipants n first l =
    let page := (l.drop first).take n
    [BitVec.ofNat 8 l.length, BitVec.ofNat 8 first, BitVec.ofNat 8 page.length] ++ (page.map fun e => le16 e.1 ++ le32 e.2).flatten := by
  have he : encodeParticipant = fun e => le16 e.1 ++ le32 e.2 := funext fun e => by rw [encodeParticipant, le16_eq, le32_eq]
  rw [encodeParticipants, he]
  rfl

/-! ### The request -/

theorem exec_resultQuery (id first : Nat) : exec (.resultQuery id first) s =
    let r := requestResult id first (s.asked (.resultQuery id first))
    .next (r.1.answering .grid 0x99 r.2.body) :=
  exec_row (c := .resultQuery id first) (l := .grid) (q := .resultQuery id first) s rfl

theorem requestResult_none {id first : Nat} (h : selectResult id s.tly.results = none) :
    requestResult id first s = refuse .noSuchEvent s := by
  simp only [requestResult, h]

theorem requestResult_some {id first : Nat} {x : Result} (h : selectResult id s.tly.results = some x) :
    requestResult id first s = ({ s with tly.results := markRead x.eventId s.tly.results },
      .done (encodeNat 1 ((markRead x.eventId s.tly.results).countP fun y => !y.read) ++ encodeNat 1 s.tly.resultsLost ++ encodeResult x ++
        encodeFlag x.read ++ encodeParticipants 32 first x.participants)) := by
  simp only [requestResult, h]

/-- Settles O53: the result selected is answered as it stood, and of the list its read flag alone is set, since ids are unique. -/
theorem resultQuerySelectsAndMarksRead : Obligations.ResultQuerySelectsAndMarksRead := by
  intro id first s hok
  rw [exec_resultQuery, ← selectResult]
  have hasked : (s.asked (.resultQuery id first)).tly = s.tly := asked_tly s _
  cases hsel : selectResult id s.tly.results with
  | none =>
    dsimp only
    rw [requestResult_none _ (hasked ▸ hsel)]
    rfl
  | some x =>
    have hmark := markRead_of_mem (resultIds_nodup s hok) (mem_of_selectResult hsel)
    dsimp only
    rw [requestResult_some _ (hasked ▸ hsel), hasked, hmark, List.countP_eq_length_filter, encodeResult_eq, encodeParticipants_eq]
    simp only [Answer.body, List.append_assoc]
    rfl

end Sys2Proof.EnergyTally
end

section
/-! A STATUS through the Dock Net Controller to the Dock Table: its fields, and what the acceptance leaves (R167, R168). -/

namespace Sys2Proof.EnergyTally

open Sys2Proof Sys2Proof.Machine

/-! ### The fields of a STATUS (R168) -/

/-- The report that 22 payload bytes carry, in the words of the statements. -/
def reportOf (b : Fin 22 → Byte) : StatusReport where
  vehicle := u16 (b 0) (b 1)
  stored := u16 (b 2) (b 3)
  capacity := u16 (b 4) (b 5)
  measured := s16 (b 6) (b 7)
  ratedExport := u16 (b 8) (b 9)
  ratedIntake := u16 (b 10) (b 11)
  exported := u32 (b 12) (b 13) (b 14) (b 15)
  taken := u32 (b 16) (b 17) (b 18) (b 19)
  phase := (b 20).toNat
  fault := (b 21).toNat

theorem ofBytes_one (b : Byte) : ofBytes [b] = b.toNat := rfl

theorem ofBytes_two (lo hi : Byte) : ofBytes [lo, hi] = u16 lo hi := rfl

theorem ofBytes_four (a b c d : Byte) : ofBytes [a, b, c, d] = u32 a b c d := by
  simp only [ofBytes, u32, u16]
  omega

theorem statusOfPayload_ofFn (b : Fin 22 → Byte) : statusOfPayload (List.ofFn b) = some (reportOf b) := by
  have hb : List.ofFn b = [b 0, b 1, b 2, b 3, b 4, b 5, b 6, b 7, b 8, b 9, b 10, b 11, b 12, b 13, b 14, b 15, b 16, b 17, b 18, b 19,
    b 20, b 21] := rfl
  rw [hb]
  simp only [statusOfPayload, List.length_cons, List.length_nil, List.drop_succ_cons, List.drop_zero, List.take_succ_cons, List.take_zero,
    ofBytes_one, ofBytes_two, ofBytes_four]
  rfl

theorem dockOfAddr_addr (d : Dock) : dockOfAddr d.addr = some d := by
  have hd : 1 ≤ d.addr ∧ d.addr ≤ 40 := ⟨by simp [Dock.addr], d.isLt⟩
  rw [dockOfAddr, dif_pos hd]
  rfl

/-! ### The Dock Net Controller (R167) -/

variable (s : State)

@[simp] theorem settleNet_docks (c : NetCause) : (settleNet c s).docks = s.docks := by
  unfold settleNet
  dsimp only
  split <;> simp

@[simp] theorem settleNet_tly (c : NetCause) : (settleNet c s).tly = s.tly := by
  unfold settleNet
  dsimp only
  split <;> simp

@[simp] theorem receiveAccepted_dock (bc : Bool) (d : Dock) : (receiveAccepted bc s).dock d = s.dock d := by
  simp [receiveAccepted, receivedWhole, State.dock]

@[simp] theorem receiveAccepted_tly (bc : Bool) : (receiveAccepted bc s).tly = s.tly := by simp [receiveAccepted, receivedWhole]

@[simp] theorem receiveAccepted_dck (bc : Bool) : (receiveAccepted bc s).dck = s.dck := by simp [receiveAccepted, receivedWhole]

/-- A STATUS of a dock as it stands on the wire, to 0 or to 63 (R168). -/
def statusFrame (d : Dock) (bc : Bool) (b : Fin 22 → Byte) : NetWire :=
  { priority := 2, source := d.addr, destination := if bc then 63 else 0, payload := List.ofFn b }

theorem statusFrame_accepted (d : Dock) (bc : Bool) (b : Fin 22 → Byte) : (statusFrame d bc b).accepted = true := by
  have hlow : 1 ≤ d.addr := Nat.succ_pos _
  have hhigh : d.addr ≤ 40 := d.isLt
  cases bc <;> simp [NetWire.accepted, statusFrame, hlow, hhigh]

theorem statusFrame_broadcast (d : Dock) (bc : Bool) (b : Fin 22 → Byte) : decide ((statusFrame d bc b).destination = 63) = bc := by
  cases bc <;> rfl

theorem handFrame_status (d : Dock) (bc : Bool) (b : Fin 22 → Byte) : handFrame (statusFrame d bc b) s = takeStatus d (reportOf b) s := by
  simp only [handFrame, statusFrame, if_true, dockOfAddr_addr, statusOfPayload_ofFn]

/-- Where the net is not NET-OFF a STATUS is accepted and its report handed to the Dock Table (R167, R170). -/
theorem exec_statusOf (d : Dock) (bc : Bool) (b : Fin 22 → Byte) (h : s.dnc.net ≠ .off) :
    exec (statusOf d bc b) s = .next (takeStatus d (reportOf b) (receiveAccepted bc s)) := by
  have hexec : exec (statusOf d bc b) s = .next (receiveFrame (statusFrame d bc b) s) := rfl
  rw [hexec, receiveFrame, if_neg h, if_pos (statusFrame_accepted d bc b), statusFrame_broadcast, handFrame_status]

end Sys2Proof.EnergyTally
end

section
/-! What the Dock Table's own steps leave of the Tally Unit: every step of a STATUS but the first (R5, R135). -/

namespace Sys2Proof.EnergyTally

open Sys2Proof Sys2Proof.Machine

/-- The Tally Unit's fields of a dock record (R135). -/
def energyOf (r : DockRecord) : Nat × Nat × Nat × Nat × Nat :=
  (r.exportBase, r.intakeBase, r.dayThroughput, r.restartCount, r.jumpCount)

theorem energyOf_eq_iff {r : DockRecord} {exported taken day restarts jumps : Nat} : energyOf r = (exported, taken, day, restarts, jumps) ↔
    r.exportBase = exported ∧ r.intakeBase = taken ∧ r.dayThroughput = day ∧ r.restartCount = restarts ∧ r.jumpCount = jumps := by
  simp [energyOf]

/-- From `s` to `t` the Tally Unit and its fields of every dock record are as they were. -/
structure SameEnergy (s t : State) : Prop where
  tly : t.tly = s.tly
  docks : ∀ d, energyOf (t.dock d) = energyOf (s.dock d)

variable {s t : State} {d : Dock}

theorem SameEnergy.refl (s : State) : SameEnergy s s := ⟨rfl, fun _ => rfl⟩

/-- A change of one record that leaves its energy fields. -/
theorem SameEnergy.modifyDock {f : DockRecord → DockRecord} (h : SameEnergy s t)
    (hf : ∀ r, energyOf (f r) = energyOf r := by exact fun _ => rfl) : SameEnergy s (t.modifyDock d f) := by
  refine ⟨h.tly, fun e => ?_⟩
  rw [State.modifyDock_dock]
  split
  · next he => rw [hf, he, h.docks]
  · exact h.docks e

theorem SameEnergy.dockNotice {e : Dock} {k : DockNoticeKind} {v : Nat} (h : SameEnergy s t) : SameEnergy s (dockNotice e k v t) :=
  ⟨h.tly, h.docks⟩

theorem SameEnergy.mapPlans {f : List Plan → List Plan} (h : SameEnergy s t) : SameEnergy s (t.mapPlans f) := ⟨h.tly, h.docks⟩

theorem enter_energy (st : DockState) (r : DockRecord) : energyOf (r.enter st) = energyOf r := by
  unfold DockRecord.enter
  split <;> rfl

/-- A record enters a state, after such a change. -/
theorem SameEnergy.enter {f : DockRecord → DockRecord} {st : DockState} (h : SameEnergy s t)
    (hf : ∀ r, energyOf (f r) = energyOf r := by exact fun _ => rfl) : SameEnergy s (t.modifyDock d fun r => (f r).enter st) :=
  h.modifyDock fun r => (enter_energy st (f r)).trans (hf r)

theorem take_energy (x : Nat) (r : DockRecord) : energyOf (r.take x) = energyOf r := by
  unfold DockRecord.take
  split
  · rfl
  · rfl
  · rfl
  · exact enter_energy _ _

theorem SameEnergy.enterFaulted {c : FaultCause} (h : SameEnergy s t) : SameEnergy s (enterFaulted c d t) := h.enter.dockNotice

theorem SameEnergy.leaveFaulted {b : Binding} (h : SameEnergy s t) : SameEnergy s (leaveFaulted b d t) := by
  have hleft (st : DockState) : SameEnergy s (t.modifyDock d fun r => { r with cause := none }.enter st) := h.enter
  unfold Machine.leaveFaulted
  split <;> (dsimp only; split)
  · exact hleft .bound
  · exact (hleft .bound).dockNotice
  · exact hleft .vacant
  · exact (hleft .vacant).dockNotice

theorem SameEnergy.bindVehicle {x : Nat} (h : SameEnergy s t) : SameEnergy s (bindVehicle d x t) := by
  have ht : SameEnergy s (t.modifyDock d (DockRecord.take x)) := h.modifyDock (take_energy x)
  exact ht.dockNotice

theorem SameEnergy.releaseVehicle {u : Nat} {k : DockNoticeKind} (h : SameEnergy s t) : SameEnergy s (releaseVehicle d u k t) := by
  have hp : SameEnergy s (planReleased u (Machine.dockNotice d k u (t.modifyDock d fun r => { r with vehicle := none }.toAllocator))) :=
    (SameEnergy.dockNotice h.modifyDock).mapPlans
  unfold Machine.releaseVehicle examineWaiting
  dsimp only
  split
  · exact hp.bindVehicle
  · exact hp

theorem SameEnergy.bindAttempt {x : Nat} {u : State} (hu : bindAttempt d x t = some u) (h : SameEnergy s t) : SameEnergy s u := by
  unfold Machine.bindAttempt at hu
  split at hu
  · cases hu
    exact h.bindVehicle
  · split at hu <;> cases hu
    exact SameEnergy.bindVehicle h.modifyDock.dockNotice

/-! ### Steps 2 to 5 of a STATUS (R7 to R9, R14, R16, R17) -/

theorem SameEnergy.statusReturn (h : SameEnergy s t) : SameEnergy s (statusReturn d t) := by
  have hback (st : DockState) :
      SameEnergy s ((t.modifyDock d fun r => { r with silentSince := none }).modifyDock d (DockRecord.enter st)) :=
    h.modifyDock.enter
  unfold Machine.statusReturn
  dsimp only
  split
  · split <;> exact (hback _).dockNotice
  · exact h

theorem SameEnergy.bindOrFault {x : Nat} {b : Binding} (h : SameEnergy s t) : SameEnergy s (bindOrFault d x b t).1 := by
  unfold Machine.bindOrFault
  split
  · next hu => exact h.bindAttempt hu
  · exact h.enterFaulted

theorem SameEnergy.bindOrKeep {x : Nat} {b : Binding} (h : SameEnergy s t) : SameEnergy s (bindOrKeep d x b t).1 := by
  unfold Machine.bindOrKeep
  split
  · next hu => exact h.bindAttempt hu
  · exact h

theorem SameEnergy.statusVehicleTrusted {x : Nat} (h : SameEnergy s t) : SameEnergy s (statusVehicleTrusted d x t).1 := by
  unfold Machine.statusVehicleTrusted
  dsimp only
  split
  · split
    · exact h
    · split
      · exact h.releaseVehicle.enter
      · exact h.releaseVehicle.bindOrFault
  · split
    · exact h.enter.dockNotice
    · exact h.bindOrFault
  · split
    · exact h
    · exact h.bindOrFault

theorem SameEnergy.statusVehicleFaulted {x : Nat} (h : SameEnergy s t) : SameEnergy s (statusVehicleFaulted d x t).1 := by
  unfold Machine.statusVehicleFaulted
  dsimp only
  split
  · split
    · exact h.leaveFaulted
    · split
      · next hu => exact h.bindAttempt hu
      · dsimp only
        exact h.modifyDock
  · split
    · exact h
    · split
      · exact h.releaseVehicle
      · exact h.releaseVehicle.bindOrKeep
  · split
    · exact h
    · exact h.bindOrKeep

theorem SameEnergy.statusVehicle {x : Nat} (h : SameEnergy s t) : SameEnergy s (statusVehicle d x t).1 := by
  unfold Machine.statusVehicle
  split
  · exact h.statusVehicleFaulted
  · exact h.statusVehicleTrusted

theorem SameEnergy.statusFault {c : Nat} {b : Binding} (h : SameEnergy s t) : SameEnergy s (statusFault d c b t) := by
  unfold Machine.statusFault
  dsimp only
  split
  · split
    · split
      · exact h.modifyDock
      · have hclean : SameEnergy s (t.modifyDock d fun r => { r with cleanCount := r.cleanCount + 1 }) := h.modifyDock
        split
        · exact hclean.leaveFaulted
        · exact hclean
    · exact h
  · split
    · exact h.enterFaulted
    · exact h

theorem SameEnergy.checkPhaseEcho {applied : Bool} (h : SameEnergy s t) : SameEnergy s (checkPhaseEcho d applied t) := by
  unfold Machine.checkPhaseEcho
  dsimp only
  split
  · split
    · split
      · exact h.modifyDock.enterFaulted
      · exact h.modifyDock
    · exact h.modifyDock
  · exact h

theorem SameEnergy.checkPower {applied : Bool} {m : Int} (h : SameEnergy s t) : SameEnergy s (checkPower d applied m t) := by
  unfold Machine.checkPower
  dsimp only
  split
  · split
    · split
      · exact h.modifyDock.enterFaulted
      · exact h.modifyDock
    · exact h.modifyDock
  · exact h

/-- After step 1 a STATUS that is not dropped leaves the Tally Unit and its fields of the records (R5). -/
theorem takeStatus_sameEnergy (report : StatusReport) (h : (s.dock d).state ≠ .disabled) :
    SameEnergy (statusRecord d report.clamp s) (takeStatus d report s) := by
  have hreturn := (SameEnergy.refl (statusRecord d report.clamp s)).statusReturn (d := d)
  unfold takeStatus statusChecks
  rw [if_neg h]
  dsimp only
  split
  · exact hreturn.statusVehicle.statusFault.checkPhaseEcho.checkPower
  · exact hreturn.statusVehicle.statusFault

end Sys2Proof.EnergyTally
end

section
/-! The counters of a STATUS (R136 to R138, R143). -/

namespace Sys2Proof.EnergyTally

open Sys2Proof Sys2Proof.Machine
open Sys2Proof.RoutePlans (toNat_decide)

/-! ### Deltas (R136, R137) -/

/-- What a counter has gained on its baseline, or its whole value when it went backward (R136). -/
def gainOf (base reported : Nat) : Nat := if base ≤ reported then reported - base else reported

theorem rawDelta_eq (base reported : Nat) : rawDelta base reported = (gainOf base reported, decide (reported < base)) := by
  unfold rawDelta gainOf
  split <;> simp <;> omega

theorem clipDelta_eq (rated elapsed raw : Nat) :
    clipDelta rated elapsed raw = (min raw (rated * elapsed / 36 + 10), decide (rated * elapsed / 36 + 10 < raw)) := by
  unfold clipDelta deltaLimit
  split <;> simp <;> omega

/-! ### Credits (R138, R143) -/

theorem tallySum_of_range {a b : Nat} (h : a + b < 4294967296) : tallySum a b = a + b := if_pos h

theorem creditParticipant_eq (v wh : Nat) (l : List (Nat × Nat)) : creditParticipant v wh l =
    if v ∈ l.map Prod.fst then l.map fun e => if e.1 = v then (e.1, min 4294967295 (e.2 + wh)) else e
    else if l.length < 64 then l ++ [(v, wh)] else l := by
  have hmem : (l.any fun e => decide (e.1 = v)) = true ↔ v ∈ l.map Prod.fst := by simp
  simp only [creditParticipant, hmem]
  rfl

/-- A vehicle bound is credited above 0 in the list of participants (R143). -/
theorem credit_participants_some (v e i : Nat) (y : Tally) : (y.credit (some v) e i).participants =
    if e = 0 then y.participants
    else if v ∈ y.participants.map Prod.fst then y.participants.map fun p => if p.1 = v then (p.1, min 4294967295 (p.2 + e)) else p
    else if y.participants.length < 64 then y.participants ++ [(v, e)] else y.participants := by
  rw [← creditParticipant_eq]
  rcases Nat.eq_zero_or_pos e with rfl | he
  · rfl
  · rw [if_neg he.ne']
    exact if_pos he

/-! ### Step 1 of a STATUS (R5) -/

variable {s : State} {d : Dock} {q : StatusReport}

/-- The first report after absence sets the baselines alone (R138). -/
theorem statusRecord_absent (h : (s.dock d).state = .absent) : (statusRecord d q s).tly = s.tly ∧
    energyOf ((statusRecord d q s).dock d) =
      (q.exported, q.taken, (s.dock d).dayThroughput, (s.dock d).restartCount, (s.dock d).jumpCount) := by
  constructor <;> simp [statusRecord, takeCounters, h, energyOf, DockRecord.report]

/-- Any other report credits its deltas, its gains up to the plausibility limits (R136 to R138). -/
theorem statusRecord_present (h : (s.dock d).state ≠ .absent) :
    let r := s.dock d
    let elapsed := max 1 (elapsedSince s.dck.uptime r.lastReport)
    let gainE := gainOf r.exportBase q.exported
    let gainI := gainOf r.intakeBase q.taken
    let limitE := q.ratedExport * elapsed / 36 + 10
    let limitI := q.ratedIntake * elapsed / 36 + 10
    (statusRecord d q s).tly =
      { s.tly with tally := s.tly.tally.map (Tally.credit r.vehicle (min gainE limitE) (min gainI limitI)) } ∧
    energyOf ((statusRecord d q s).dock d) = (q.exported, q.taken, min 4294967295 (r.dayThroughput + min gainE limitE),
      min 65535 (r.restartCount + ((if q.exported < r.exportBase then 1 else 0) + (if q.taken < r.intakeBase then 1 else 0))),
      min 65535 (r.jumpCount + ((if limitE < gainE then 1 else 0) + (if limitI < gainI then 1 else 0)))) := by
  constructor <;>
    simp [statusRecord, takeCounters, h, energyOf, DockRecord.report, clipDelta_eq, rawDelta_eq, toNat_decide, wordModulus, satAdd]

/-- Settles O16: step 1 takes the counters, and no later step of a STATUS changes what it has written. -/
theorem statusCountersBecomeCreditedDeltas : Obligations.StatusCountersBecomeCreditedDeltas := by
  intro d bc b s hnet
  rw [exec_statusOf s d bc b hnet]
  have hdock : (receiveAccepted bc s).dock d = s.dock d := receiveAccepted_dock s bc d
  refine ⟨fun habsent => ⟨_, rfl, ?_⟩, fun hdisabled habsent => ⟨_, rfl, ?_⟩⟩
  · have hkept := takeStatus_sameEnergy (s := receiveAccepted bc s) (d := d) (reportOf b) (by simp [hdock, habsent])
    obtain ⟨htly, henergy⟩ := statusRecord_absent (q := (reportOf b).clamp) (hdock ▸ habsent)
    rw [hdock] at henergy
    obtain ⟨hexport, hintake, hday, hrestart, hjump⟩ := energyOf_eq_iff.mp ((hkept.docks d).trans henergy)
    exact ⟨hexport, hintake, hday, hrestart, hjump, hkept.tly.trans (htly.trans (receiveAccepted_tly s bc))⟩
  · have hkept := takeStatus_sameEnergy (s := receiveAccepted bc s) (d := d) (reportOf b) (hdock ▸ hdisabled)
    obtain ⟨htly, henergy⟩ := statusRecord_present (q := (reportOf b).clamp) (hdock ▸ habsent)
    rw [hdock, receiveAccepted_dck] at henergy
    rw [hdock, receiveAccepted_dck, receiveAccepted_tly] at htly
    obtain ⟨hexport, hintake, hday, hrestart, hjump⟩ := energyOf_eq_iff.mp ((hkept.docks d).trans henergy)
    refine ⟨hexport, hintake, hday, hrestart, hjump, ?_⟩
    rw [hkept.tly.trans htly]
    refine ⟨rfl, rfl, rfl, ?_⟩
    dsimp only
    cases s.tly.tally with
    | none => trivial
    | some y =>
      refine ⟨tallySum_of_range, tallySum_of_range, tallySum_of_range, tallySum_of_range, ?_, rfl, rfl, rfl⟩
      cases (s.dock d).vehicle with
      | none => rfl
      | some v => exact credit_participants_some v _ _ y

end Sys2Proof.EnergyTally
end

section
/-! One period of the 32.768 kHz time base, which a step with no command waiting is (R155, R156, R176, log 3): what comes due, and the clock
after it, whatever the order in which it is taken. -/

namespace Sys2Proof.DepotClock

open Sys2Proof Sys2Proof.Machine
open Sys2Proof.SiteLimits (clockAfter uptimeCounted secondCounted foldl_takePeriodEvent_dck)

variable {s : State} {k : Dck} {e : PeriodEvent}

theorem step_of_idle (h : s.pending = []) : step s = .next (takePeriod s) := by
  unfold step
  rw [h]

/-! ### What comes due in a period -/

/-- The state after a period's count, with the end of depot time as a number (R154). -/
theorem countPeriod_eq (s : State) : countPeriod s = { s with
    dck := { s.dck with
      uptimeDivider := s.dck.uptimeDivider + 1
      depotDivider := if s.dck.running = true ∧ s.dck.depotTime < 4000000000 then s.dck.depotDivider + 1 else s.dck.depotDivider }
    dnc := { s.dnc with echo := { s.dnc.echo with wait := s.dnc.echo.wait.map fun n => n - 1 } } } := rfl

theorem uptimeSecond_due_iff : PeriodEvent.due (countPeriod s) .uptimeSecond = true ↔ 32767 ≤ s.dck.uptimeDivider := by
  rw [countPeriod_eq, PeriodEvent.due, decide_eq_true_iff, periodsPerSecond, Nat.succ_le_succ_iff]

theorem depotSecond_due_iff : PeriodEvent.due (countPeriod s) .depotSecond = true ↔
    if s.dck.running = true ∧ s.dck.depotTime < 4000000000 then 32767 ≤ s.dck.depotDivider else 32768 ≤ s.dck.depotDivider := by
  rw [countPeriod_eq, PeriodEvent.due, decide_eq_true_iff, periodsPerSecond]
  dsimp only
  split
  · rw [Nat.succ_le_succ_iff]
  · rfl

/-- A running echo wait runs out in its last period; one of 0, which no run reaches, is taken as its last too. -/
theorem echoWait_due_iff : PeriodEvent.due (countPeriod s) .echoWait = true ↔ s.dnc.echo.wait = some 0 ∨ s.dnc.echo.wait = some 1 := by
  rw [countPeriod_eq, PeriodEvent.due, decide_eq_true_iff]
  cases s.dnc.echo.wait with
  | none => simp
  | some n =>
    simp only [Option.map_some, Option.some.injEq]
    omega

/-- A period in which nothing comes due is the count alone. -/
theorem takePeriod_of_none_due (h : ∀ e, PeriodEvent.due (countPeriod s) e = false) : takePeriod s = countPeriod s := by
  have hnil : PeriodEvent.all.filter (PeriodEvent.due (countPeriod s)) = [] := List.filter_eq_nil_iff.mpr fun e _ => by simp [h e]
  unfold takePeriod
  dsimp only
  rw [hnil]

/-- The clock after a period: what is due has been taken in some order. -/
theorem takePeriod_dck (s : State) : ∃ order : List PeriodEvent,
    (∀ e, e ∈ order ↔ PeriodEvent.due (countPeriod s) e = true) ∧ (takePeriod s).dck = order.foldl clockAfter (countPeriod s).dck := by
  have hmem : ∀ e, e ∈ PeriodEvent.all.filter (PeriodEvent.due (countPeriod s)) ↔ PeriodEvent.due (countPeriod s) e = true := fun e => by
    rw [List.mem_filter, and_iff_right (by cases e <;> decide)]
  unfold takePeriod
  dsimp only
  split
  · next hnone => exact ⟨[], hnone ▸ hmem, rfl⟩
  · exact ⟨freeOrder (countPeriod s).draws _, fun e => (mem_freeOrder _ _ _).trans (hmem e), foldl_takePeriodEvent_dck _ _⟩

/-! ### The clock while the events of a period are taken -/

/-- An event among those taken has its effect, when the others leave what it acts on and nothing after it undoes it. -/
theorem foldl_of_mem {α β : Type} {f : β → α → β} {P Q : β → Prop} {a : α} (hother : ∀ b x, x ≠ a → P b → P (f b x))
    (htaken : ∀ b, P b → Q (f b a)) (hafter : ∀ b x, Q b → Q (f b x)) {l : List α} (ha : a ∈ l) {b : β} (hb : P b) : Q (l.foldl f b) := by
  induction l generalizing b with
  | nil => cases ha
  | cons x l ih =>
    by_cases hx : x = a
    · exact foldl_keeps_pred Q f l (fun c y _ => hafter c y) _ (hx ▸ htaken b hb)
    · exact ih ((List.mem_cons.mp ha).resolve_left (Ne.symm hx)) (hother b x hx hb)

/-- Uptime and its divider stand at these values (R155). -/
def AtUptime (u d : Nat) (k : Dck) : Prop := k.uptime = u ∧ k.uptimeDivider = d

/-- The clock runs, and depot time and its divider stand at these values (R156). -/
def AtDepotTime (t d : Nat) (k : Dck) : Prop := k.running = true ∧ k.depotTime = t ∧ k.depotDivider = d

variable {u t d : Nat}

/-- Only an uptime second that is due moves uptime or its divider. -/
theorem AtUptime.kept (h : AtUptime u d k) (he : e ≠ .uptimeSecond ∨ d < 32768) : AtUptime u d (clockAfter k e) := by
  obtain ⟨hu, hd⟩ := h
  cases e with
  | uptimeSecond =>
    have hbelow : d < 32768 := he.resolve_left (· rfl)
    rw [clockAfter, if_neg (by omega)]
    exact ⟨hu, hd⟩
  | depotSecond =>
    unfold clockAfter secondCounted
    dsimp only
    split
    · split <;> exact ⟨hu, hd⟩
    · exact ⟨hu, hd⟩
  | echoWait => exact ⟨hu, hd⟩

theorem AtUptime.counted (h : AtUptime u 32768 k) : AtUptime ((u + 1) % 4294967296) 0 (clockAfter k .uptimeSecond) := by
  obtain ⟨rfl, hd⟩ := h
  rw [clockAfter, if_pos hd.ge]
  exact ⟨rfl, rfl⟩

/-- Only a depot second that is due moves depot time or its divider. -/
theorem AtDepotTime.kept (h : AtDepotTime t d k) (he : e ≠ .depotSecond ∨ d < 32768) : AtDepotTime t d (clockAfter k e) := by
  obtain ⟨hr, ht, hd⟩ := h
  cases e with
  | uptimeSecond =>
    unfold clockAfter uptimeCounted
    dsimp only
    split <;> exact ⟨hr, ht, hd⟩
  | depotSecond =>
    have hbelow : d < 32768 := he.resolve_left (· rfl)
    rw [clockAfter, if_neg (by omega)]
    exact ⟨hr, ht, hd⟩
  | echoWait => exact ⟨hr, ht, hd⟩

theorem AtDepotTime.counted (h : AtDepotTime t 32768 k) (hlt : t < depotTimeMax) :
    AtDepotTime (t + 1) 0 (clockAfter k .depotSecond) := by
  obtain ⟨hr, rfl, hd⟩ := h
  rw [clockAfter, if_pos hd.ge, secondCounted, if_pos ⟨hr, hlt⟩]
  exact ⟨hr, rfl, rfl⟩

/-! ### The 32768th period of a second -/

theorem takePeriod_uptimeSecond (h : s.dck.uptimeDivider = 32767) : AtUptime ((s.dck.uptime + 1) % 4294967296) 0 (takePeriod s).dck := by
  obtain ⟨order, hdue, hdck⟩ := takePeriod_dck s
  have hcounted : AtUptime s.dck.uptime 32768 (countPeriod s).dck := ⟨rfl, congrArg (· + 1) h⟩
  rw [hdck]
  exact foldl_of_mem (fun _ _ hne hk => hk.kept (.inl hne)) (fun _ hk => hk.counted)
    (fun _ _ hk => hk.kept (.inr (by decide))) ((hdue _).mpr (uptimeSecond_due_iff.mpr h.ge)) hcounted

theorem takePeriod_depotSecond (h : s.dck.depotDivider = 32767) (hr : s.dck.running = true) (ht : s.dck.depotTime < 4000000000) :
    AtDepotTime (s.dck.depotTime + 1) 0 (takePeriod s).dck := by
  obtain ⟨order, hdue, hdck⟩ := takePeriod_dck s
  have hmem : .depotSecond ∈ order := (hdue _).mpr (depotSecond_due_iff.mpr (by rw [if_pos ⟨hr, ht⟩, h]))
  have hcounted : AtDepotTime s.dck.depotTime 32768 (countPeriod s).dck := by
    rw [countPeriod_eq, if_pos ⟨hr, ht⟩, h]
    exact ⟨hr, rfl, rfl⟩
  rw [hdck]
  exact foldl_of_mem (fun _ _ hne hk => hk.kept (.inl hne)) (fun _ hk => hk.counted ht)
    (fun _ _ hk => hk.kept (.inr (by decide))) hmem hcounted

/-- Settles O2: a period is its count when nothing comes due, and a second that comes due is taken in every order. -/
theorem idleStepIsOnePeriod : Obligations.IdleStepIsOnePeriod := by
  intro s hidle
  rw [step_of_idle hidle]
  refine ⟨fun huptime hcounts hstands hwait0 hwait1 => ?_, fun hfull => ?_, fun hfull hrun htime => ?_⟩
  · refine congrArg Host.Outcome.next ((takePeriod_of_none_due fun e => Bool.eq_false_iff.mpr fun hdue => ?_).trans (countPeriod_eq s))
    cases e with
    | uptimeSecond => exact huptime.not_ge (uptimeSecond_due_iff.mp hdue)
    | depotSecond =>
      have hdepot := depotSecond_due_iff.mp hdue
      split at hdepot
      · next hc => exact (hcounts hc).not_ge hdepot
      · next hc => exact (hstands hc).not_ge hdepot
    | echoWait => exact (echoWait_due_iff.mp hdue).elim hwait0 hwait1
  · exact ⟨_, rfl, takePeriod_uptimeSecond hfull⟩
  · exact ⟨_, rfl, (takePeriod_depotSecond hfull hrun htime).2⟩

end Sys2Proof.DepotClock
end

section
/-! The queries of plans, parameters, echo test, clock and link (R154, R177, R186, R192, R193). -/

namespace Sys2Proof.DepotClock

open Sys2Proof Sys2Proof.Machine Sys2Proof.RoutePlans

variable (s : State)

/-! ### A query as a request row (log 9) -/

@[simp] theorem asked_dnc (c : Instr) : (s.asked c).dnc = s.dnc := by
  unfold State.asked State.holdingRequest
  split <;> simp

/-- A request whose owner leaves the state changes nothing but the answer. -/
theorem exec_query {c : Instr} {l : Link} {q : Request} {a : Answer} (h : requestOf c = some (l, q))
    (hq : runRequest l q (s.asked c) = (s.asked c, a)) : exec c s = .next ((s.asked c).answering l (q.kind.code + 0x80) a.body) := by
  rw [exec_row s h, hq]

/-- Being taken, a request is one of those held and changes nothing else of its port. -/
theorem ask_eq (f : LinkFrame) (p : Port) : p.ask f = { p with holding := (p.ask f).holding } := by
  unfold Port.ask
  split <;> rfl

theorem ask_holding_length (f : LinkFrame) (p : Port) : (p.ask f).holding.length = max 1 p.holding.length := by
  unfold Port.ask
  cases hp : p.holding with
  | nil => rfl
  | cons x rest => simp [hp]

theorem asked_port {c : Instr} {l : Link} {q : Request} (h : requestOf c = some (l, q)) : (s.asked c).port l = (s.port l).ask q.frame := by
  rw [asked_request s h, State.mapPort_port, if_pos rfl]

/-! ### PLAN QUERY (R192) -/

theorem requestPlanOne_none {v : Nat} (h : findPlan s.rpt.plans v = none) : requestPlanOne v s = (s, .refused .noSuchVehicle []) := by
  rw [requestPlanOne, h]
  rfl

theorem requestPlanOne_some {v : Nat} {p : Plan} (h : findPlan s.rpt.plans v = some p) : requestPlanOne v s = (s, .done (planEntry p)) := by
  rw [requestPlanOne, h, ← encodePlan_eq]

theorem requestPlanPage_eq (v : Nat) : requestPlanPage v s =
    let rest := s.rpt.plans.filter fun p => decide (v ≤ p.vehicle)
    (s, .done ([BitVec.ofNat 8 (min 17 rest.length), flagByte (decide (17 < rest.length))] ++ ((rest.take 17).map planEntry).flatten)) := by
  have hentry : encodePlan = planEntry := funext encodePlan_eq
  rw [requestPlanPage, hentry]
  dsimp only
  rw [List.length_take]
  rfl

/-! ### PARAMETER QUERY (R193) -/

/-- The eleven parameters in the order of their ids. -/
def parameters (s : State) : List Nat :=
  [s.rpt.margin, s.rpt.keep, s.rpt.planningIntake, s.rpt.planningEfficiency, s.rpt.readyLead, s.rpt.shortBand, s.slu.intakeCeiling,
    s.slu.rampRate, s.rot.intervalA, s.rot.intervalB, s.tly.meterWeight]

theorem parameterValue_succ (i : Nat) : parameterValue s (i + 1) = (parameters s).getD i 0 := by
  rcases Nat.lt_or_ge i 11 with h | h
  · interval_cases i <;> rfl
  · obtain ⟨j, rfl⟩ := Nat.exists_eq_add_of_le' h
    rw [List.getD_eq_default _ _ h]
    rfl

theorem parameterRange_of_le {i : Nat} (h : i < 11) : ∃ range, parameterRange (i + 1) = some range := by
  interval_cases i <;> exact ⟨_, rfl⟩

theorem parameterRange_beyond {id : Nat} (h : 11 < id) : parameterRange id = none := by
  obtain ⟨j, rfl⟩ := Nat.exists_eq_add_of_le' h
  rfl

theorem requestParameterQuery_all : requestParameterQuery 0 s = (s, .done ((parameters s).map le16).flatten) := rfl

theorem requestParameterQuery_one {id : Nat} (hid : id ≠ 0) (h : id ≤ 11) :
    requestParameterQuery id s = (s, .done (le16 ((parameters s).getD (id - 1) 0))) := by
  obtain ⟨i, rfl⟩ := Nat.exists_eq_succ_of_ne_zero hid
  obtain ⟨range, hrange⟩ := parameterRange_of_le h
  rw [requestParameterQuery, if_neg hid, hrange, parameterValue_succ]
  rfl

theorem requestParameterQuery_none {id : Nat} (h : 11 < id) : requestParameterQuery id s = (s, .refused .badLength []) := by
  rw [requestParameterQuery, if_neg (by omega), parameterRange_beyond h]
  rfl

/-! ### CLOCK QUERY (R154) and LINK QUERY (R186) -/

theorem clockChange_code_eq (x : ClockChange) : x.code = (match x with | .none => 0 | .set => 1 | .trim => 2 : Byte) := by
  cases x <;> rfl

theorem requestClockQuery_eq : requestClockQuery s = (s, .done ([flagByte s.dck.running] ++ le32 s.dck.depotTime ++
    le16 s.dck.depotDivider ++ le32 s.dck.uptime ++ le16 s.dck.uptimeDivider ++ [s.dck.lastChange.code] ++
    le32 s.dck.lastChangeUptime ++ le32 (s.dck.depotTime % 86400) ++ le16 (s.dck.depotTime / 86400) ++
    [BitVec.ofNat 8 (s.dck.depotTime % 86400 / 1800)])) := by
  simp only [requestClockQuery, le32_eq, le16_eq]
  rfl

theorem lockState_code_eq (x : LockState) : x.code = (match x with | .hunt => 0 | .locked => 1 | .quiet => 2 : Byte) := by
  cases x <;> rfl

/-- A LINK QUERY reports its port as it was before the query stood in it, but for the requests held. -/
theorem requestLinkQuery_asked (l : Link) : requestLinkQuery l (s.asked (.linkQuery l)) =
    ((s.asked (.linkQuery l)).mapPort l fun p => { p with badFrames := 0, overruns := 0, droppedNotices := 0 },
      .done [(s.port l).lock.code, BitVec.ofNat 8 (s.port l).badFrames, BitVec.ofNat 8 (s.port l).overruns,
        BitVec.ofNat 8 (s.port l).droppedNotices, BitVec.ofNat 8 (s.port l).notices.length,
        BitVec.ofNat 8 (max 1 (s.port l).holding.length)]) := by
  rw [← ask_holding_length Request.linkQuery.frame, requestLinkQuery, asked_port s (c := .linkQuery l) (q := .linkQuery) rfl, ask_eq]
  rfl

/-! ### The rows -/

theorem exec_planQueryOne (v : Nat) : exec (.planQueryOne v) s = .next ((s.asked (.planQueryOne v)).answering .fleet 0xB2
    (match s.rpt.plans.find? fun p => decide (p.vehicle = v) with | some p => [0, 0] ++ planEntry p | none => [2, 12])) := by
  have hrow {a : Answer} (ha : requestPlanOne v (s.asked (.planQueryOne v)) = (s.asked (.planQueryOne v), a)) :=
    exec_query s (c := .planQueryOne v) (l := .fleet) (q := .planQuery 0 v) rfl ha
  rw [← findPlan]
  cases h : findPlan s.rpt.plans v with
  | none => exact hrow (requestPlanOne_none _ (by rw [asked_rpt, h]))
  | some p => exact hrow (requestPlanOne_some _ (by rw [asked_rpt, h]))

theorem exec_planQueryPage (v : Nat) :
    let rest := s.rpt.plans.filter fun p => decide (v ≤ p.vehicle)
    exec (.planQueryPage v) s = .next ((s.asked (.planQueryPage v)).answering .fleet 0xB2
      ([0, 0, BitVec.ofNat 8 (min 17 rest.length), flagByte (decide (17 < rest.length))] ++ ((rest.take 17).map planEntry).flatten)) := by
  have hpage := requestPlanPage_eq (s.asked (.planQueryPage v)) v
  rw [asked_rpt] at hpage
  exact exec_query s (c := .planQueryPage v) (l := .fleet) (q := .planQuery 1 v) rfl hpage

theorem parameters_asked (c : Instr) : parameters (s.asked c) = parameters s := by
  simp [parameters, RestRotation.asked_rot, Dispatch.asked_slu, Dispatch.asked_tly]

theorem exec_parameterQuery (id : Nat) :
    exec (.parameterQuery id) s = .next ((s.asked (.parameterQuery id)).answering .fleet 0xB6
      (if id = 0 then [0, 0] ++ ((parameters s).map le16).flatten
        else if id ≤ 11 then [0, 0] ++ le16 ((parameters s).getD (id - 1) 0) else [2, 3])) := by
  have hrow {a : Answer} (ha : requestParameterQuery id (s.asked (.parameterQuery id)) = (s.asked (.parameterQuery id), a)) :=
    exec_query s (c := .parameterQuery id) (l := .fleet) (q := .parameterQuery id) rfl ha
  rw [← parameters_asked s (.parameterQuery id)]
  split
  · next h =>
    subst h
    exact hrow (requestParameterQuery_all _)
  next hid =>
  split
  · next h => exact hrow (requestParameterQuery_one _ hid h)
  · next h => exact hrow (requestParameterQuery_none _ (Nat.not_le.mp h))

theorem exec_echoQuery :
    let e := s.dnc.echo
    exec .echoQuery s = .next ((s.asked .echoQuery).answering .fleet 0xC0 [0, 0, e.state.code, BitVec.ofNat 8 e.dock, BitVec.ofNat 8 e.count,
      BitVec.ofNat 8 e.sequence, BitVec.ofNat 8 e.matched, BitVec.ofNat 8 e.mismatched, BitVec.ofNat 8 e.missed]) := by
  dsimp only
  rw [← asked_dnc s .echoQuery]
  exact exec_query s (c := .echoQuery) (l := .fleet) (q := .echoQuery) rfl rfl

theorem exec_clockQuery (l : Link) :
    let k := s.dck
    exec (.clockQuery l) s = .next ((s.asked (.clockQuery l)).answering l 0xE2 ([0, 0, flagByte k.running] ++ le32 k.depotTime ++
      le16 k.depotDivider ++ le32 k.uptime ++ le16 k.uptimeDivider ++
      [(match k.lastChange with | .none => 0 | .set => 1 | .trim => 2 : Byte)] ++ le32 k.lastChangeUptime ++
      le32 (k.depotTime % 86400) ++ le16 (k.depotTime / 86400) ++ [BitVec.ofNat 8 (k.depotTime % 86400 / 1800)])) := by
  have hclock := requestClockQuery_eq (s.asked (.clockQuery l))
  rw [asked_dck, clockChange_code_eq] at hclock
  exact exec_query s (c := .clockQuery l) (l := l) (q := .clockQuery) rfl hclock

theorem exec_linkQuery (l : Link) :
    let p := s.port l
    exec (.linkQuery l) s = .next (State.answering ((s.asked (.linkQuery l)).mapPort l fun p =>
        { p with badFrames := 0, overruns := 0, droppedNotices := 0 }) l 0xE3
      [0, 0, (match p.lock with | .hunt => 0 | .locked => 1 | .quiet => 2 : Byte), BitVec.ofNat 8 p.badFrames, BitVec.ofNat 8 p.overruns,
        BitVec.ofNat 8 p.droppedNotices, BitVec.ofNat 8 p.notices.length, BitVec.ofNat 8 (max 1 p.holding.length)]) := by
  have hrow := exec_row s (c := .linkQuery l) (l := l) (q := .linkQuery) rfl
  rw [runRequest, requestLinkQuery_asked, lockState_code_eq] at hrow
  exact hrow

/-- Settles O59: each query's owner leaves the state, LINK QUERY's but for its port's counts, and answers in the statement's words. -/
theorem smallQueriesReportAndChangeNothing : Obligations.SmallQueriesReportAndChangeNothing := fun v id l s =>
  ⟨exec_planQueryOne s v, exec_planQueryPage s v, exec_parameterQuery s id, exec_echoQuery s, exec_clockQuery s l, exec_linkQuery s l⟩

end Sys2Proof.DepotClock
end

section
/-! The Dock Net Controller's net state as it is settled, and the returns to NET-ACTIVE (R169 to R171). -/

namespace Sys2Proof.DockNet

open Sys2Proof Sys2Proof.Machine
open Sys2Proof.RoutePlans (exec_row)
open Sys2Proof.RestRotation (timerDue_some)
open Sys2Proof.SiteLimits (settledAt enterNet_rest netStateOf_eq_off abortEcho_of_running abortEcho_of_not_running)

/-! ### Settling the net state (R169, R170) -/

/-- The net state that counts give while TEC is at most 255 (R169). -/
def onState (n : Dnc) : NetState := if 128 ≤ n.tec ∨ 128 ≤ n.recCount then .passive else .active

theorem onState_eq (n : Dnc) : onState n = .active ∨ onState n = .passive := by
  unfold onState
  split
  · exact .inr rfl
  · exact .inl rfl

theorem netStateOf_of_le {n : Dnc} (h : n.tec ≤ 255) : netStateOf n.tec n.recCount = onState n := if_neg h.not_gt

/-- A Dock Net Controller in NET-PASSIVE, its running echo test ended (R169, R177). -/
def passiveAborted (n : Dnc) : Dnc :=
  { n with
    net := .passive, echo := { n.echo with state := .aborted, wait := none }, queuedEcho := none
    sending := n.sending.map Transmission.withdrawEcho }

/-- The counts turn an active net passive while an echo test runs (R169, R177). -/
structure EntersPassiveRunning (n : Dnc) : Prop where
  active : n.net = .active
  passive : onState n = .passive
  running : n.echo.state = .running

/-- Entry into NET-PASSIVE ends a running echo test (R169, R177). -/
theorem settledAt_of_running {u : Nat} {n : Dnc} (h : EntersPassiveRunning n) (ht : n.tec ≤ 255) : settledAt u n = passiveAborted n := by
  rw [settledAt, netStateOf_of_le ht, h.active, h.passive, if_neg (by decide)]
  exact abortEcho_of_running (n := { n with net := .passive }) h.running

/-- Otherwise, while TEC is at most 255, settling moves the net state alone (R169). -/
theorem settledAt_of_not_running {u : Nat} {n : Dnc} (hon : n.net ≠ .off) (ht : n.tec ≤ 255) (h : ¬EntersPassiveRunning n) :
    settledAt u n = { n with net := onState n } := by
  rw [settledAt, netStateOf_of_le ht]
  by_cases hs : n.net = onState n
  · rw [if_pos (.inr hs)]
    exact congrArg (fun st => { n with net := st }) hs
  · rw [if_neg (not_or.mpr ⟨hon, hs⟩)]
    rcases onState_eq n with ho | ho <;> rw [ho] at hs ⊢
    · rfl
    · have hactive : n.net = .active := by
        cases hn : n.net with
        | active => rfl
        | passive => exact absurd hn hs
        | off => exact absurd hn hon
      exact abortEcho_of_not_running (n := { n with net := .passive }) fun hr => h ⟨hactive, ho, hr⟩

/-- Entry into NET-OFF empties the queue, ends a running echo test and starts the recovery timer (R170). -/
theorem enterNet_off (u : Nat) (n : Dnc) : n.enterNet .off u = { n with
    net := .off, queuedCease := false, queuedSetpoints := [], queuedEcho := none, recoveryTimer := some ((u + 2) % 4294967296)
    echo := if n.echo.state = .running then { n.echo with state := .aborted, wait := none } else n.echo
    sending := if n.echo.state = .running then n.sending.map Transmission.withdrawEcho else n.sending } := by
  unfold Dnc.enterNet Dnc.abortEcho
  dsimp only
  split <;> rfl

/-- A TEC above 255 turns the net off (R169, R170). -/
theorem settledAt_of_gt {u : Nat} {n : Dnc} (h : n.net ≠ .off) (ht : 255 < n.tec) : settledAt u n = n.enterNet .off u := by
  have ho : netStateOf n.tec n.recCount = .off := netStateOf_eq_off.mpr ht
  rw [settledAt, ho, if_neg (not_or.mpr ⟨h, h⟩)]

/-- Settling the net state touches the Dock Net Controller alone, and a change raises a NET NOTICE with the counts as they stand (R169). -/
theorem settleNet_eq (c : NetCause) (s : State) : settleNet c s = { s with
    dnc := settledAt s.dck.uptime s.dnc
    fleet := if (settledAt s.dck.uptime s.dnc).net = s.dnc.net then s.fleet
      else s.fleet.raise (.net s.dnc.net (settledAt s.dck.uptime s.dnc).net c s.dnc.tec s.dnc.recCount s.dnc.foreign s.dck.uptime) } := by
  unfold settleNet settledAt
  dsimp only
  split
  · rw [if_pos rfl]
  · next hs =>
    obtain ⟨hnet, htec, hrec, hforeign, -⟩ := enterNet_rest s.dck.uptime (netStateOf s.dnc.tec s.dnc.recCount) s.dnc
    rw [hnet, if_neg fun hc => hs (.inr hc.symm)]
    simp only [netNotice, raiseOn, State.mapPort, State.mapDnc, hnet, htec, hrec, hforeign]

/-! ### Recovery and NET RESTART (R170, R171) -/

/-- The Dock Net Controller with its counts cleared, in NET-ACTIVE, the recovery timer stopped (R170, R171). -/
def restarted (n : Dnc) : Dnc := { n with tec := 0, recCount := 0, net := .active, recoveryTimer := none }

theorem restartNet_eq (c : NetCause) (s : State) : restartNet c s = { s with
    dnc := restarted s.dnc
    fleet := if s.dnc.net = .active then s.fleet else s.fleet.raise (.net s.dnc.net .active c 0 0 s.dnc.foreign s.dck.uptime) } := by
  unfold restartNet
  dsimp only
  split <;> rfl

theorem expireRecovery_of_on {s : State} (h : s.dnc.net ≠ .off) : expireRecovery s = s := by
  rw [expireRecovery, recoveryDue, decide_eq_false h, Bool.false_and]
  rfl

theorem expireRecovery_of_due {s : State} {e : Nat} (h : s.dnc.net = .off) (he : s.dnc.recoveryTimer = some e)
    (hdue : (s.dck.uptime + 4294967296 - e) % 4294967296 < 2147483648) : expireRecovery s = restartNet .recovery s := by
  rw [expireRecovery, recoveryDue, he, decide_eq_true h, timerDue_some.mpr hdue]
  rfl

/-- Settles O27: both ways back to NET-ACTIVE are one restart, each with its own cause. -/
theorem netRecoversAndRestarts : Obligations.NetRecoversAndRestarts := by
  refine fun s => ⟨fun hoff e he hdue => ?_, fun hon => congrArg Host.Outcome.next (expireRecovery_of_on hon), ?_⟩
  · refine congrArg Host.Outcome.next ?_
    rw [expireRecovery_of_due hoff he hdue, restartNet_eq, hoff]
    rfl
  · have hrow := exec_row (c := .netRestart) (l := .fleet) (q := .netRestart) s rfl
    rw [runRequest, requestNetRestart, restartNet_eq] at hrow
    exact hrow

end Sys2Proof.DockNet
end

section
/-! Frames of other nodes, and the attempts of the Dock Net Controller (R164 to R170). -/

namespace Sys2Proof.DockNet

open Sys2Proof Sys2Proof.Machine
open Sys2Proof.SiteLimits (settledAt netOk_iff NetSound)

/-! ### Frames of other nodes (R167, R169) -/

/-- A new REC, settled, moves the net state and a running echo test alone (R169, R177). -/
theorem settleNet_recCount {s : State} (hon : s.dnc.net ≠ .off) (ht : s.dnc.tec ≤ 255) (r : Nat) (ack : Bool) : ∃ (m : Dnc) (p : Port),
    settleNet .recCount (s.mapDnc fun n => { n with recCount := r, ackDriven := ack }) =
      { s with
        dnc := { s.dnc with recCount := r, ackDriven := ack, net := m.net, echo := m.echo, queuedEcho := m.queuedEcho, sending := m.sending }
        fleet := p } ∧
    m.net = (if 128 ≤ s.dnc.tec ∨ 128 ≤ r then .passive else .active) ∧
    p = (if m.net = s.dnc.net then s.fleet
      else s.fleet.raise (.net s.dnc.net m.net .recCount s.dnc.tec r s.dnc.foreign s.dck.uptime)) ∧
    (if s.dnc.net = .active ∧ m.net = .passive ∧ s.dnc.echo.state = .running then
      m.echo = { s.dnc.echo with state := .aborted, wait := none } ∧ m.queuedEcho = none
    else m.echo = s.dnc.echo ∧ m.queuedEcho = s.dnc.queuedEcho ∧ m.sending = s.dnc.sending) := by
  rw [settleNet_eq, State.mapDnc_dnc]
  by_cases h : EntersPassiveRunning { s.dnc with recCount := r, ackDriven := ack }
  · rw [settledAt_of_running h ht]
    refine ⟨passiveAborted s.dnc, _, rfl, h.passive.symm, rfl, ?_⟩
    rw [if_pos ⟨h.active, rfl, h.running⟩]
    exact ⟨rfl, rfl⟩
  · rw [settledAt_of_not_running (n := { s.dnc with recCount := r, ackDriven := ack }) hon ht h]
    refine ⟨{ s.dnc with net := onState { s.dnc with recCount := r, ackDriven := ack } }, _, rfl, rfl, rfl, ?_⟩
    rw [if_neg fun hc => h ⟨hc.1, hc.2.1, hc.2.2⟩]
    exact ⟨rfl, rfl, rfl⟩

/-- A source outside 1..40 or a length other than the frame's own is not accepted (R167). -/
theorem accepted_eq_false {f : NetWire} (h : f.source = 0 ∨ 40 < f.source ∨
    ((f.priority = 2 → f.payload.length ≠ 22) ∧ (f.priority = 3 → f.payload.length ≠ 8))) : f.accepted = false := by
  refine Bool.eq_false_iff.mpr fun hc => ?_
  simp only [NetWire.accepted, Bool.and_eq_true, Bool.or_eq_true, decide_eq_true_eq] at hc
  obtain ⟨⟨⟨-, hlow⟩, hhigh⟩, hkind⟩ := hc
  rcases h with h | h | ⟨h2, h3⟩
  · omega
  · omega
  · exact hkind.elim (fun hk => h2 hk.1 hk.2) fun hk => h3 hk.1 hk.2

/-- A frame that is not accepted is a foreign one (R167). -/
theorem receiveFrame_of_not_accepted {f : NetWire} (h : f.accepted = false) (s : State) :
    Host.Outcome.next (receiveFrame f s) = exec .foreignFrame s := by
  refine congrArg Host.Outcome.next ?_
  rw [receiveFrame, h]
  rfl

theorem receiveFrame_of_off {s : State} (f : NetWire) (h : s.dnc.net = .off) : receiveFrame f s = s := if_pos h

theorem returnFrame_of_idle {n : Dnc} (h : n.sending = none) : n.returnFrame = n := by
  rw [Dnc.returnFrame, h]

theorem endAttempt_of_idle {s : State} (how : AttemptEnd) (h : s.dnc.sending = none) : endAttempt how s = s := by
  rw [endAttempt, h]

/-- Settles O23: every frame of another node moves REC, and the net state is settled by it. -/
theorem receivedFramesMoveTheCountsAndTheNet : Obligations.ReceivedFramesMoveTheCountsAndTheNet := by
  refine fun src bc driven payload how s => ⟨fun hon hok => ?_, fun h => ?_, fun h => ?_, fun hoff => ?_, fun hidle => ⟨?_, ?_⟩⟩
  · have ht := (netOk_iff.mp hok).tec_le hon
    dsimp only
    constructor
    · obtain ⟨m, p, hsettled, hnet, hfleet, hecho⟩ := settleNet_recCount hon ht (s.dnc.recCount - 1) s.dnc.ackDriven
      refine ⟨_, congrArg Host.Outcome.next ((if_neg hon).trans (congrArg (State.mapDnc · _) hsettled)), ?_, rfl, rfl, rfl, rfl⟩
      exact ⟨rfl, rfl, rfl, rfl, rfl, rfl, rfl, rfl, rfl, rfl, rfl, rfl, rfl, hnet, hfleet, hecho⟩
    · obtain ⟨m, p, hsettled, hnet, hfleet, hecho⟩ := settleNet_recCount hon ht (min 255 (s.dnc.recCount + 1)) driven
      refine ⟨_, congrArg Host.Outcome.next ((if_neg hon).trans hsettled), ?_, rfl, rfl, rfl, rfl⟩
      exact ⟨rfl, rfl, rfl, rfl, rfl, rfl, rfl, rfl, rfl, rfl, rfl, rfl, rfl, hnet, hfleet, hecho⟩
  · exact receiveFrame_of_not_accepted (accepted_eq_false (h.imp_right (Or.imp_right fun hl => ⟨fun _ => hl, fun hc => (by cases hc)⟩))) s
  · exact receiveFrame_of_not_accepted (accepted_eq_false (h.imp_right (Or.imp_right fun hl => ⟨fun hc => (by cases hc), fun _ => hl⟩))) s
  · exact ⟨congrArg Host.Outcome.next (receiveFrame_of_off _ hoff), congrArg Host.Outcome.next (receiveFrame_of_off _ hoff),
      congrArg Host.Outcome.next (if_pos hoff), congrArg Host.Outcome.next (if_pos hoff)⟩
  · exact congrArg Host.Outcome.next (congrArg (fun n => { s with dnc := n }) (returnFrame_of_idle hidle))
  · exact congrArg Host.Outcome.next (endAttempt_of_idle how hidle)

/-! ### Attempts (R164 to R166) -/

/-- The Dock Net Controller once a frame that was cut off is dropped, withdrawn or superseded, or returned to its place (R166). -/
def cutOff (x : Transmission) (n : Dnc) : Dnc :=
  if x.withdrawn = true ∨ x.superseded = true then { n with sending := none }
  else match x.frame with
    | .cease => { n with sending := none, queuedCease := true }
    | .setpoint f =>
      if f.dock ∈ n.queuedSetpoints.map Setpoint.dock then { n with sending := none }
      else { n with sending := none, queuedSetpoints := f :: n.queuedSetpoints }
    | .echo e => { n with sending := none, queuedEcho := some e }

theorem returnFrame_eq {n : Dnc} {x : Transmission} (hx : n.sending = some x) (hon : n.net ≠ .off) : n.returnFrame = cutOff x n := by
  rw [Dnc.returnFrame, hx]
  refine if_congr (by simp only [hon, or_false]) rfl ?_
  cases x.frame with
  | cease => rfl
  | setpoint f => exact if_congr (by simp only [List.any_eq_true, decide_eq_true_eq, List.mem_map]) rfl rfl
  | echo e => rfl

theorem returnFrame_of_off {n : Dnc} (hoff : n.net = .off) : n.returnFrame = { n with sending := none } := by
  unfold Dnc.returnFrame
  split
  · next h => rw [← h]
  · exact if_pos (.inr (.inr hoff))

theorem startAttempt_of_idle {n : Dnc} (hidle : n.sending = none) (hon : n.net ≠ .off) : n.startAttempt =
    match n.takeHead with
    | some (f, m) => { m with sending := some { frame := f, withdrawn := false, superseded := false } }
    | none => n := by
  rw [Dnc.startAttempt, hidle]
  exact if_neg hon

/-- Settles O24: outside NET-OFF the head frame goes into transmission, and a frame cut off is dropped or returned. -/
theorem attemptsTakeAndReturnTheHeadFrame : Obligations.AttemptsTakeAndReturnTheHeadFrame := by
  refine fun s => ⟨fun hidle hon => ?_, fun h => ?_, fun hon x hx => ?_⟩
  · refine congrArg (fun n => Host.Outcome.next { s with dnc := n }) ?_
    rw [startAttempt_of_idle hidle hon, Dnc.takeHead]
    by_cases hcease : s.dnc.queuedCease = true
    · rw [if_pos hcease, if_pos hcease]
    · rw [if_neg hcease, if_neg hcease]
      cases hset : s.dnc.queuedSetpoints with
      | cons f rest => rfl
      | nil =>
        cases s.dnc.queuedEcho with
        | none => rfl
        | some e =>
          by_cases hactive : s.dnc.net = .active
          · simp only [if_pos hactive, hset]
          · simp only [if_neg hactive]
  · refine congrArg (fun n => Host.Outcome.next { s with dnc := n }) ?_
    unfold Dnc.startAttempt
    split
    · rfl
    · next hidle => exact if_pos (h.resolve_left (by simp [hidle]))
  · exact congrArg (fun n => Host.Outcome.next { s with dnc := n }) (returnFrame_eq hx hon)

/-! ### A transmit error (R165, R166, R170) -/

/-- What is left of a frame that was cut off, by its kind (R166). -/
theorem returnFrame_queues {n : Dnc} {x : Transmission} (hx : n.sending = some x) (hon : n.net ≠ .off) :
    match x.frame with
    | .cease => n.returnFrame = { n with sending := none, queuedCease := n.queuedCease || !(x.withdrawn || x.superseded) }
    | .setpoint f => n.returnFrame = { n with
        sending := none
        queuedSetpoints :=
          if x.withdrawn = true ∨ x.superseded = true ∨ f.dock ∈ n.queuedSetpoints.map Setpoint.dock then n.queuedSetpoints
          else f :: n.queuedSetpoints }
    | .echo e => n.returnFrame = { n with
        sending := none, queuedEcho := if x.withdrawn = true ∨ x.superseded = true then n.queuedEcho else some e } := by
  rw [returnFrame_eq hx hon, cutOff]
  have hmarks : (x.withdrawn || x.superseded) = decide (x.withdrawn = true ∨ x.superseded = true) := by
    cases x.withdrawn <;> cases x.superseded <;> rfl
  by_cases hdrop : x.withdrawn = true ∨ x.superseded = true
  · rw [if_pos hdrop, hmarks, decide_eq_true hdrop]
    cases x.frame with
    | cease => simp
    | setpoint f => simp only [← or_assoc, hdrop, true_or, if_true]
    | echo e => simp only [hdrop, if_true]
  · rw [if_neg hdrop, hmarks, decide_eq_false hdrop]
    cases x.frame with
    | cease => simp
    | setpoint f =>
      simp only [← or_assoc, hdrop, false_or]
      split <;> rfl
    | echo e => simp only [hdrop, if_false]

/-- Returning a frame moves the queue alone, and no frame is in transmission after it. -/
theorem returnFrame_rest (n : Dnc) : n.returnFrame = { n with
    sending := none, queuedCease := n.returnFrame.queuedCease, queuedSetpoints := n.returnFrame.queuedSetpoints
    queuedEcho := n.returnFrame.queuedEcho } := by
  unfold Dnc.returnFrame
  split
  · next h => simp only [← h]
  · dsimp only
    split
    · rfl
    · split
      · rfl
      · split <;> rfl
      · rfl

section
variable {s : State} {n : Dnc} {x : Transmission} {u : Nat}

/-- A transmit error raises TEC by 8 (R165). -/
def raised (n : Dnc) : Dnc := { n with tec := n.tec + 8 }

/-- The Dock Net Controller after a transmit error: TEC raised, the net state settled, the frame returned or dropped (R165). -/
def afterError (u : Nat) (n : Dnc) : Dnc := (settledAt u (raised n)).returnFrame

theorem afterError_net (u : Nat) (n : Dnc) : (afterError u n).net = (settledAt u (raised n)).net := by
  rw [afterError, returnFrame_rest]

theorem exec_transmitError (hx : s.dnc.sending = some x) : exec (.transmitAttemptEnd .transmitError) s = .next { s with
    dnc := afterError s.dck.uptime s.dnc
    fleet := if (afterError s.dck.uptime s.dnc).net = s.dnc.net then s.fleet
      else s.fleet.raise (.net s.dnc.net (afterError s.dck.uptime s.dnc).net .tecCount (s.dnc.tec + 8) s.dnc.recCount s.dnc.foreign
        s.dck.uptime) } := by
  refine congrArg Host.Outcome.next ?_
  rw [endAttempt, hx, afterError_net]
  dsimp only
  rw [settleNet_eq]
  rfl

/-- A TEC above 255 drops the queue and the frame (R170). -/
theorem afterError_of_gt (hon : n.net ≠ .off) (ht : 255 < n.tec + 8) : afterError u n = { n with
    tec := n.tec + 8, net := .off, queuedCease := false, queuedSetpoints := [], queuedEcho := none, sending := none
    recoveryTimer := some ((u + 2) % 4294967296)
    echo := if n.echo.state = .running then { n.echo with state := .aborted, wait := none } else n.echo } := by
  rw [afterError, settledAt_of_gt (n := raised n) hon ht, enterNet_off, returnFrame_of_off rfl]
  rfl

/-- While TEC stays at or below 255, what the error does apart from queue and echo test (R165, R169). -/
theorem afterError_of_le (hon : n.net ≠ .off) (ht : n.tec + 8 ≤ 255) : afterError u n = { n with
    tec := n.tec + 8, net := onState (raised n), sending := none, echo := (afterError u n).echo
    queuedCease := (afterError u n).queuedCease, queuedSetpoints := (afterError u n).queuedSetpoints
    queuedEcho := (afterError u n).queuedEcho } := by
  unfold afterError
  by_cases h : EntersPassiveRunning (raised n)
  · rw [settledAt_of_running h ht, returnFrame_rest, h.passive]
    rfl
  · rw [settledAt_of_not_running (n := raised n) hon ht h, returnFrame_rest]
    rfl

/-- A running echo test ends exactly when the net does not stay active (R169, R177). -/
theorem afterError_echo_of_le (hs : NetSound n) (hon : n.net ≠ .off) (ht : n.tec + 8 ≤ 255) : (afterError u n).echo =
    if n.echo.state = .running ∧ onState (raised n) = .passive then { n.echo with state := .aborted, wait := none } else n.echo := by
  unfold afterError
  by_cases h : EntersPassiveRunning (raised n)
  · rw [settledAt_of_running h ht, returnFrame_rest]
    exact (if_pos ⟨h.running, h.passive⟩).symm
  · rw [settledAt_of_not_running (n := raised n) hon ht h, returnFrame_rest]
    exact (if_neg fun hc => h ⟨hs.echo.active hc.1, hc.2, hc.1⟩).symm

/-- While TEC stays at or below 255, the queue takes the frame back (R166); an ECHO of a test that has ended is withdrawn (R177). -/
theorem afterError_queues (hs : NetSound n) (hx : n.sending = some x) (hon : n.net ≠ .off) (ht : n.tec + 8 ≤ 255) :
    match x.frame with
    | .cease => (afterError u n).queuedCease = (n.queuedCease || !(x.withdrawn || x.superseded)) ∧
        (afterError u n).queuedSetpoints = n.queuedSetpoints
    | .setpoint f => (afterError u n).queuedCease = n.queuedCease ∧
        (afterError u n).queuedSetpoints =
          (if x.withdrawn = true ∨ x.superseded = true ∨ f.dock ∈ n.queuedSetpoints.map Setpoint.dock then n.queuedSetpoints
          else f :: n.queuedSetpoints)
    | .echo e => (afterError u n).queuedCease = n.queuedCease ∧ (afterError u n).queuedSetpoints = n.queuedSetpoints ∧
        ((afterError u n).net = .active → x.withdrawn = false → x.superseded = false → (afterError u n).queuedEcho = some e) ∧
        ((afterError u n).net = .passive → (afterError u n).queuedEcho = none) := by
  obtain ⟨frame, w, b⟩ := x
  unfold afterError
  by_cases h : EntersPassiveRunning (raised n)
  · rw [settledAt_of_running h ht]
    have hq := returnFrame_queues (n := passiveAborted (raised n)) (congrArg (Option.map Transmission.withdrawEcho) hx) nofun
    cases frame with
    | echo e =>
      dsimp only [Transmission.withdrawEcho] at hq ⊢
      rw [hq]
      exact ⟨rfl, rfl, nofun, fun _ => rfl⟩
    | _ =>
      dsimp only [Transmission.withdrawEcho] at hq ⊢
      rw [hq]
      exact ⟨rfl, rfl⟩
  · rw [settledAt_of_not_running (n := raised n) hon ht h]
    have hq := returnFrame_queues (n := { raised n with net := onState (raised n) }) hx fun ho => by
      rcases onState_eq (raised n) with hst | hst <;> cases hst.symm.trans ho
    cases frame with
    | echo e =>
      dsimp only at hq ⊢
      rw [hq]
      refine ⟨rfl, rfl, fun _ hw hb => if_neg (by simp [hw, hb]), fun hp => ?_⟩
      have hstill : n.echo.state ≠ .running := fun hr => h ⟨hs.echo.active hr, hp, hr⟩
      have hw : w = true := by
        by_contra hw
        exact hstill (hs.echo.sent _ hx ⟨Bool.eq_false_iff.mpr hw, e, rfl⟩).1
      have hnone : n.queuedEcho = none := by
        by_contra hq
        exact hstill (hs.echo.queued (Option.isSome_iff_ne_none.mpr hq)).1
      exact (if_pos (.inl hw)).trans hnone
    | _ =>
      dsimp only at hq ⊢
      rw [hq]
      exact ⟨rfl, rfl⟩

end

/-- Settles O25: past 255 everything is dropped; below, the settled net state decides what becomes of the frame and the test. -/
theorem transmitErrorRaisesTecAndCanTurnTheNetOff : Obligations.TransmitErrorRaisesTecAndCanTurnTheNetOff := by
  intro s hok x hx
  have hs := netOk_iff.mp hok
  have hon : s.dnc.net ≠ .off := fun ho => by cases (hs.off_idle ho).symm.trans hx
  refine ⟨_, exec_transmitError hx, ?_⟩
  by_cases ht : 255 < s.dnc.tec + 8
  · rw [if_pos ht, if_pos ht, afterError_of_gt hon ht]
    exact ⟨rfl, rfl, rfl, rfl, rfl, ⟨rfl, rfl, rfl, rfl⟩, fun hr _ => if_pos hr, fun h => if_neg (h.resolve_left nofun),
      rfl, rfl, rfl, rfl, rfl, rfl, rfl, rfl, rfl⟩
  · have hle : s.dnc.tec + 8 ≤ 255 := Nat.not_lt.mp ht
    have hnet : (afterError s.dck.uptime s.dnc).net = onState (raised s.dnc) := by rw [afterError_of_le hon hle]
    rw [if_neg ht, if_neg ht]
    refine ⟨by rw [afterError_of_le hon hle], by rw [afterError_of_le hon hle], by rw [afterError_of_le hon hle],
      by rw [afterError_of_le hon hle], hnet, ⟨by rw [afterError_of_le hon hle], afterError_queues hs hx hon hle⟩,
      fun hr hn => ?_, fun h => ?_, rfl, rfl, rfl, rfl, rfl, rfl, rfl, rfl, rfl⟩
    · rw [afterError_echo_of_le hs hon hle]
      exact if_pos ⟨hr, (onState_eq _).resolve_left (hnet ▸ hn)⟩
    · rw [afterError_echo_of_le hs hon hle]
      exact if_neg fun hc => h.elim (fun ha => by cases (hnet.symm.trans ha).symm.trans hc.2) fun hr => hr hc.1

end Sys2Proof.DockNet
end

section
/-! The echo test: checked, started, and judged by replies and waits (R175, R176). -/

namespace Sys2Proof.DockNet

open Sys2Proof Sys2Proof.Machine
open Sys2Proof.RoutePlans (exec_row asked_evq asked_dock)
open Sys2Proof.DepotClock (asked_dnc)
open Sys2Proof.SiteLimits (netStateOf_eq_active)

/-! ### Going on after a sequence (R176) -/

/-- The echo test after its sequence: over, or at the next. -/
def goneOn (e : EchoTest) : EchoTest :=
  if e.sequence = e.count then
    { e with wait := none, state := if e.mismatched = 0 ∧ e.missed = 0 then .donePass else .doneFail }
  else { e with wait := none, sequence := e.sequence + 1 }

/-- The ECHO queued after the sequence of a test. -/
def nextQueued (n : Dnc) : Option EchoFrame :=
  if n.echo.sequence = n.echo.count then n.queuedEcho else some { dock := n.echo.dock, sequence := n.echo.sequence + 1 }

theorem echoGoOn_eq (n : Dnc) : n.echoGoOn = { n with echo := goneOn n.echo, queuedEcho := nextQueued n } := by
  unfold Dnc.echoGoOn goneOn nextQueued
  dsimp only
  split <;> rfl

/-- The payload of an ECHO byte by byte: the bytes hold their numbers modulo 256 (R176). -/
theorem echoPayload_eq (n : Nat) : echoPayload n = [BitVec.ofNat 8 n, BitVec.ofNat 8 (n * 37 + 11), BitVec.ofNat 8 (n * 37 + 22),
    BitVec.ofNat 8 (n * 37 + 33), BitVec.ofNat 8 (n * 37 + 44), BitVec.ofNat 8 (n * 37 + 55), BitVec.ofNat 8 (n * 37 + 66),
    BitVec.ofNat 8 (n * 37 + 77)] := by
  have hbyte : ∀ k, BitVec.ofNat 8 ((n * 37 + k) % 256) = BitVec.ofNat 8 (n * 37 + k) := fun k =>
    BitVec.eq_of_toNat_eq (by simp)
  exact congrArg (BitVec.ofNat 8 n :: ·) (by simp only [← hbyte]; rfl)

theorem head?_eq_some_iff_take {α : Type} {l m : List α} {a : α} (hm : m.take 1 = [a]) : l.head? = some a ↔ l.take 1 = m.take 1 := by
  cases l <;> simp [hm]

/-- A reply is examined while the wait runs, from the test dock and with the byte awaited; any other is discarded (R176). -/
theorem echoReceive_eq (source : Nat) (payload : List Byte) (n : Dnc) : n.echoReceive source payload =
    if n.echo.wait = none ∨ source ≠ n.echo.dock ∨ payload.take 1 ≠ (echoPayload n.echo.sequence).take 1 then n
    else if payload = echoPayload n.echo.sequence then Dnc.echoGoOn { n with echo := { n.echo with matched := n.echo.matched + 1 } }
    else Dnc.echoGoOn { n with echo := { n.echo with mismatched := n.echo.mismatched + 1 } } := by
  have hhead := head?_eq_some_iff_take (l := payload) (m := echoPayload n.echo.sequence) rfl
  unfold Dnc.echoReceive
  cases n.echo.wait with
  | none => exact (if_pos (Or.inl rfl)).symm
  | some w =>
    dsimp only
    by_cases h : source = n.echo.dock ∧ payload.head? = some (echoByte n.echo.sequence 0)
    · rw [if_pos h, if_neg (not_or.mpr ⟨nofun, not_or.mpr ⟨not_not.mpr h.1, not_not.mpr (hhead.mp h.2)⟩⟩)]
    · rw [if_neg h, if_pos (.inr (not_and_or.mp fun hc => h ⟨hc.1, hhead.mpr hc.2⟩))]

/-! ### Replies and waits (R167, R176) -/

section
variable (s : State)

/-- In NET-ACTIVE a good frame lowers REC and leaves the net active (R167, R169). -/
theorem receiveAccepted_of_active (hok : s.NetOk) (h : s.dnc.net = .active) (bc : Bool) : receiveAccepted bc s =
    { s with dnc := { s.dnc with recCount := s.dnc.recCount - 1, ackDriven := !bc } } := by
  obtain ⟨ht, hr⟩ := hok.state_active h
  have hsame : receivedWhole s = s.mapDnc fun n => { n with recCount := n.recCount - 1 } :=
    if_pos (.inr (h.trans (netStateOf_eq_active.mpr ⟨ht, (Nat.sub_le _ _).trans_lt hr⟩).symm))
  rw [receiveAccepted, hsame]
  rfl

theorem exec_echoReply {src : Nat} {bc : Bool} {payload : List Byte} (hok : s.NetOk) (hactive : s.dnc.net = .active) (hlow : 1 ≤ src)
    (hhigh : src ≤ 40) (hlen : payload.length = 8) : exec (.echoReply src bc payload) s = .next { s with
      dnc := Dnc.echoReceive src payload { s.dnc with recCount := s.dnc.recCount - 1, ackDriven := !bc } } := by
  have hon : s.dnc.net ≠ .off := fun hc => by cases hactive.symm.trans hc
  let f : NetWire := NetWire.mk 3 src (if bc then 63 else 0) payload
  have haccepted : f.accepted = true := by
    cases bc <;> simp [f, NetWire.accepted, hlow, hhigh, hlen]
  have hbroadcast : decide (f.destination = 63) = bc := by
    cases bc <;> rfl
  have hframe : receiveFrame f s = (receiveAccepted bc s).mapDnc (Dnc.echoReceive src payload) := by
    rw [receiveFrame, if_neg hon, if_pos haccepted, hbroadcast]
    rfl
  rw [receiveAccepted_of_active s hok hactive] at hframe
  exact congrArg Host.Outcome.next hframe

theorem expireEchoWait_eq : expireEchoWait s = if s.dnc.echo.wait = none then s else s.mapDnc Dnc.echoMiss := by
  unfold expireEchoWait
  cases s.dnc.echo.wait <;> rfl

end

/-! ### ECHO TEST (R175) -/

/-- The record of an address is the first with it, when it is one of 1..40 (R23). -/
theorem dockOfAddr_eq (a : Nat) : dockOfAddr a = if a = 0 ∨ 40 < a then none else Dock.all.find? fun d => decide (d.addr = a) := by
  by_cases h : a = 0 ∨ 40 < a
  · rw [if_pos h]
    exact dif_neg (by omega)
  · have hrange : 1 ≤ a ∧ a ≤ 40 := by omega
    rw [if_neg h]
    refine (dif_pos hrange).trans ?_
    cases hfind : Dock.all.find? fun d => decide (d.addr = a) with
    | none =>
      refine absurd ?_ (List.find?_eq_none.mp hfind ⟨a - 1, by omega⟩ (List.mem_finRange _))
      exact decide_eq_true (Nat.sub_add_cancel hrange.1)
    | some d =>
      have haddr : d.addr = a := of_decide_eq_true (List.find?_some hfind :)
      exact congrArg some (Fin.ext (Nat.sub_eq_of_eq_add haddr.symm))

section
variable {a : Nat} (count : Nat) (s : State) (c : Instr)

theorem requestEchoTest_none (h : dockOfAddr a = none) : requestEchoTest a count s = refuse .noSuchDock s := by
  rw [requestEchoTest, onDock, h]

/-- The checks of an ECHO TEST on a dock, in order (R175). -/
theorem requestEchoTest_some {d : Dock} (h : dockOfAddr a = some d) : requestEchoTest a count (s.asked c) =
    if count = 0 then refuse .badLength (s.asked c)
    else if (s.evq.any fun r => decide (r.state = .active)) = true then refuse .eventActive (s.asked c)
    else if s.dnc.echo.state = .running then refuse .testBusy (s.asked c)
    else if (s.dock d).state ≠ .vacant ∧ (s.dock d).state ≠ .bound then refuse .dockState (s.asked c)
    else if s.dnc.net ≠ .active then refuse .netState (s.asked c)
    else ({ s.asked c with dnc := s.dnc.startEcho a count }, .done []) := by
  rw [requestEchoTest, onDock, h]
  simp only [State.mapDnc, asked_evq, asked_dnc, asked_dock, holdsActive, not_or]

/-- The row ECHO TEST leaves what its owner leaves, with the owner's answer formed (log 9). -/
def EchoTestYields (a count : Nat) (s : State) (r : State × Answer) : Prop :=
  exec (.echoTest a count) s = .next (r.1.answering .fleet 0xBF r.2.body)

theorem exec_echoTest (a : Nat) : EchoTestYields a count s (requestEchoTest a count (s.asked (.echoTest a count))) :=
  exec_row (c := .echoTest a count) (l := .fleet) (q := .echoTest a count) s rfl

end

/-- Settles O22: a reply and a wait that expires each go on with the test, and the row ECHO TEST yields what its checks decide. -/
theorem echoTestIsStartedAndJudged : Obligations.EchoTestIsStartedAndJudged := by
  intro src bc payload a count s
  dsimp only
  rw [← echoPayload_eq]
  refine ⟨fun hactive hok hlow hhigh hlen => ?_, ?_, ?_⟩
  · rw [exec_echoReply s hok hactive hlow hhigh hlen, echoReceive_eq, echoGoOn_eq, echoGoOn_eq]
    rfl
  · refine congrArg Host.Outcome.next ?_
    rw [expireEchoWait_eq]
    split
    · rfl
    · exact congrArg (fun n => { s with dnc := n }) (echoGoOn_eq _)
  · rw [← dockOfAddr_eq]
    have hrow := exec_echoTest count s a
    cases hdock : dockOfAddr a with
    | none => rwa [requestEchoTest_none count _ hdock] at hrow
    | some d =>
      rw [requestEchoTest_some count s _ hdock] at hrow
      simp only [apply_ite (EchoTestYields a count s)] at hrow
      exact hrow

end Sys2Proof.DockNet
end

section
/-! The Dock Net frame on its line, level by level: what a receiver makes of stuffed levels (R163, R167). -/

namespace Sys2Proof.DockNet

open Sys2Proof Sys2Proof.Machine

/-! ### Fields as bits (R163) -/

theorem length_numberBits (n v : Nat) : (numberBits n v).length = n := by
  induction n with
  | zero => rfl
  | succ n ih => exact congrArg (· + 1) ih

theorem foldl_numberBits (n v a : Nat) :
    (numberBits n v).foldl (fun n b => 2 * n + b.toNat) a = a * 2 ^ n + v % 2 ^ n := by
  induction n generalizing a with
  | zero => simp [numberBits, Nat.mod_one]
  | succ n ih =>
    rw [numberBits, List.foldl_cons, ih, Nat.mod_pow_succ, Nat.toNat_testBit]
    ring

theorem bitsNumber_numberBits {n v : Nat} (h : v < 2 ^ n) : bitsNumber (numberBits n v) = v := by
  rw [bitsNumber, foldl_numberBits, Nat.zero_mul, Nat.zero_add, Nat.mod_eq_of_lt h]

theorem byteBits_eq (b : Byte) : byteBits b = numberBits 8 b.toNat := by
  simp only [byteBits, numberBits, BitVec.testBit_toNat]
  rfl

theorem length_byteBits (b : Byte) : (byteBits b).length = 8 := rfl

theorem length_flatMap_byteBits (l : List Byte) : (l.flatMap byteBits).length = 8 * l.length := by
  induction l with
  | nil => rfl
  | cons b l ih =>
    rw [List.flatMap_cons, List.length_append, ih, length_byteBits, List.length_cons]
    omega

theorem bitsBytes_flatMap (l : List Byte) (m : List Bool) : bitsBytes l.length (l.flatMap byteBits ++ m) = l := by
  induction l with
  | nil => rfl
  | cons b l ih =>
    rw [List.flatMap_cons, List.append_assoc, List.length_cons, bitsBytes, List.take_left' (length_byteBits b),
      List.drop_left' (length_byteBits b), ih, byteBits_eq, bitsNumber_numberBits b.isLt, BitVec.ofNat_toNat, BitVec.setWidth_eq]

/-- The bits of a frame from start through length, for a length of its own. -/
def headBits (f : NetWire) (n : Nat) : List Bool := false :: f.headerBits ++ numberBits 5 n

theorem length_headBits (f : NetWire) (n : Nat) : (headBits f n).length = 20 := rfl

theorem bits_eq (f : NetWire) : f.bits = headBits f f.payload.length ++ (f.payload.flatMap byteBits ++ f.checkBits) := by
  simp only [NetWire.bits, NetWire.coveredBits, headBits, List.append_assoc, List.cons_append]

/-- The number in the length field. -/
def lengthField (head : List Bool) : Nat := bitsNumber ((head.drop 15).take 5)

theorem lengthField_headBits (f : NetWire) {n : Nat} (h : n < 32) : lengthField (headBits f n) = n := bitsNumber_numberBits (n := 5) h

theorem lengthField_headBits_append (f : NetWire) (n : Nat) (m : List Bool) : lengthField (headBits f n ++ m) = lengthField (headBits f n) := rfl

/-- A frame within its field widths is read back from its own bits, whatever follows its payload. -/
theorem ofBits_headBits {f : NetWire} (hp : f.priority < 4) (hs : f.source < 64) (hd : f.destination < 64) (hl : f.payload.length < 32)
    (m : List Bool) : NetWire.ofBits (headBits f f.payload.length) (f.payload.flatMap byteBits ++ m) = f := by
  have hpriority : bitsNumber (((headBits f f.payload.length).drop 1).take 2) = f.priority := bitsNumber_numberBits (n := 2) hp
  have hsource : bitsNumber (((headBits f f.payload.length).drop 3).take 6) = f.source := bitsNumber_numberBits (n := 6) hs
  have hdestination : bitsNumber (((headBits f f.payload.length).drop 9).take 6) = f.destination := bitsNumber_numberBits (n := 6) hd
  have hlength : bitsNumber (((headBits f f.payload.length).drop 15).take 5) = f.payload.length := bitsNumber_numberBits (n := 5) hl
  rw [NetWire.ofBits, hpriority, hsource, hdestination, hlength, bitsBytes_flatMap]

/-! ### Stuffing (R163) -/

/-- How many of a level stand in a row once the level b follows `run` of the level `last`. -/
def runAfter (last : Bool) (run : Nat) (b : Bool) : Nat := if b = last then run + 1 else 1

/-- The levels of bits, stuffed, with `run` of the level `last` before them. -/
def stuffed : Bool → Nat → List Bool → List Bool
  | last, run, [] => if run = 6 then [!last] else []
  | last, run, b :: l =>
    if run = 6 then (!last) :: b :: stuffed b (runAfter (!last) 1 b) l else b :: stuffed b (runAfter last run b) l

theorem stuffed_cons_six (last b : Bool) (l : List Bool) :
    stuffed last 6 (b :: l) = (!last) :: b :: stuffed b (runAfter (!last) 1 b) l := rfl

theorem stuffed_cons {run : Nat} (h : run ≠ 6) (last b : Bool) (l : List Bool) :
    stuffed last run (b :: l) = b :: stuffed b (runAfter last run b) l := if_neg h

/-- The zones leave the levels as they are. -/
theorem map_fst_stuffFrom (last : Bool) (run : Nat) (l : List (Bool × Zone)) :
    (stuffFrom last run l).map Prod.fst = stuffed last run (l.map Prod.fst) := by
  induction l generalizing last run with
  | nil =>
    unfold stuffFrom
    split
    · next h => rw [h]; rfl
    · next h => exact (if_neg h).symm
  | cons x l ih =>
    rw [List.map_cons]
    by_cases h : run = 6
    · subst h
      rw [stuffed_cons_six, ← ih, stuffFrom, if_pos rfl, runAfter, ← apply_ite (stuffFrom x.1 · l)]
      rfl
    · rw [stuffed_cons h, ← ih, stuffFrom, if_neg h, runAfter, ← apply_ite (stuffFrom x.1 · l)]
      rfl

theorem stuff_eq (l : List Bool) : stuff l = stuffed true 0 l := by
  rw [stuff, map_fst_stuffFrom, List.map_map]
  exact congrArg (stuffed true 0) (List.map_id l)

/-! ### The reader (R163) -/

section
variable {last b : Bool} {run n : Nat} {r u : LineReader} {rest : List Bool}

theorem unstuffed_six : (LineReader.mk last 6 ((!last) :: rest)).unstuffed = some ⟨!last, 1, rest⟩ := by
  cases last <;> rfl

theorem unstuffed_of_ne (h : run ≠ 6) : (LineReader.mk last run rest).unstuffed = some ⟨last, run, rest⟩ := if_neg h

/-- A seventh equal level is a form error (R163). -/
theorem unstuffed_seventh : (LineReader.mk b 6 (b :: rest)).unstuffed = none := by
  cases b <;> rfl

theorem take_succ_of_none (h : r.unstuffed = none) : LineReader.take (n + 1) r = none := by
  rw [LineReader.take, h]

theorem take_succ (h : r.unstuffed = some ⟨last, run, b :: rest⟩) :
    LineReader.take (n + 1) r = (LineReader.take n ⟨b, runAfter last run b, rest⟩).map fun q => (b :: q.1, q.2) := by
  rw [LineReader.take, h]
  dsimp only [List.headD_cons, List.tail_cons]
  split
  · next hrest => exact (congrArg (Option.map fun q => (b :: q.1, q.2)) hrest).symm
  · next q hrest => exact (congrArg (Option.map fun q => (b :: q.1, q.2)) hrest).symm

/-- The next bit of stuffed levels, with the stuffed bit before it. -/
theorem take_succ_stuffed (l : List Bool) : LineReader.take (n + 1) ⟨last, run, stuffed last run (b :: l) ++ rest⟩ =
    (LineReader.take n (if run = 6 then ⟨b, runAfter (!last) 1 b, stuffed b (runAfter (!last) 1 b) l ++ rest⟩
      else ⟨b, runAfter last run b, stuffed b (runAfter last run b) l ++ rest⟩)).map fun q => (b :: q.1, q.2) := by
  by_cases h : run = 6
  · subst h
    rw [if_pos rfl]
    exact take_succ unstuffed_six
  · rw [if_neg h, stuffed_cons h]
    exact take_succ (unstuffed_of_ne h)

/-- Bits are read back from their stuffed levels, with what follows them still stuffed. -/
theorem take_stuffed (l m : List Bool) (last : Bool) (run : Nat) : ∃ last' run', ∀ rest,
    LineReader.take l.length ⟨last, run, stuffed last run (l ++ m) ++ rest⟩ = some (l, ⟨last', run', stuffed last' run' m ++ rest⟩) := by
  induction l generalizing last run with
  | nil => exact ⟨last, run, fun _ => rfl⟩
  | cons b l ih =>
    by_cases h : run = 6
    · obtain ⟨last', run', ih⟩ := ih b (runAfter (!last) 1 b)
      refine ⟨last', run', fun rest => ?_⟩
      rw [List.length_cons, List.cons_append, take_succ_stuffed, if_pos h, ih]
      rfl
    · obtain ⟨last', run', ih⟩ := ih b (runAfter last run b)
      refine ⟨last', run', fun rest => ?_⟩
      rw [List.length_cons, List.cons_append, take_succ_stuffed, if_neg h, ih]
      rfl

/-- After the last bit only a stuffed bit stands before the ack slot. -/
theorem unstuffed_stuffed_nil (last : Bool) (run : Nat) (rest : List Bool) :
    ∃ r, (LineReader.mk last run (stuffed last run [] ++ rest)).unstuffed = some r ∧ r.rest = rest := by
  by_cases h : run = 6
  · subst h
    exact ⟨_, unstuffed_six, rfl⟩
  · refine ⟨_, unstuffed_of_ne h, ?_⟩
    rw [stuffed, if_neg h]
    rfl

end

/-! ### Frames received (R163, R167) -/

theorem receiveLevels_head {head tail : List Bool} (hhead : head.length = 20) (h : 24 < lengthField head) :
    receiveLevels (stuff head ++ tail) = .inError false := by
  obtain ⟨last, run, htake⟩ := take_stuffed head [] true 0
  rw [hhead, List.append_nil] at htake
  rw [stuff_eq, receiveLevels, htake]
  exact if_pos (by rw [lengthField] at h; omega)

/-- A frame received to its end: its check, and the nine levels after the ack slot, decide (R163, R167). -/
theorem receiveLevels_stuff {head body tail : List Bool} (hhead : head.length = 20) (h : lengthField head ≤ 24)
    (hbody : body.length = 8 * lengthField head + 16) : receiveLevels (stuff (head ++ body) ++ tail) =
      if body.drop (8 * lengthField head) ≠ (NetWire.ofBits head body).checkBits then .inError false
      else if ((tail.drop 1).take 9).all id then .whole (NetWire.ofBits head body)
      else .inError (NetWire.ofBits head body).acked := by
  obtain ⟨last, run, htake⟩ := take_stuffed head body true 0
  obtain ⟨last', run', htake'⟩ := take_stuffed body [] last run
  obtain ⟨r, hr, hrest⟩ := unstuffed_stuffed_nil last' run' tail
  rw [hhead] at htake
  rw [hbody, List.append_nil] at htake'
  rw [stuff_eq, receiveLevels, htake]
  refine (if_neg (by rw [lengthField] at h; omega)).trans ?_
  have hbits : 8 * bitsNumber ((head.drop 15).take 5) + 16 = 8 * lengthField head + 16 := rfl
  rw [hbits, htake']
  dsimp only
  rw [hr, ← hrest]
  rfl

/-! ### A seventh equal level (R163) -/

section
variable {b c last : Bool} {run n : Nat} {l m rest : List Bool} {r u : LineReader}

/-- Six equal levels do not reach back over a change of level. -/
theorem suffix_of_change (h : List.replicate 6 b <:+ m ++ (!c) :: c :: l) : List.replicate 6 b <:+ c :: l := by
  have hmixed : ¬∀ x ∈ (!c) :: c :: l, x = b := fun hall =>
    Bool.not_ne_self c ((hall (!c) (by simp)).trans (hall c (by simp)).symm)
  rcases List.suffix_or_suffix_of_suffix h (List.suffix_append m _) with h | h
  · exact (List.suffix_cons_iff.mp h).resolve_left fun heq => hmixed fun x hx => List.eq_of_mem_replicate (heq ▸ hx)
  · exact absurd (fun x hx => List.eq_of_mem_replicate (h.subset hx)) hmixed

/-- Six equal levels at the end of the line are among those in a row after its last bit. -/
theorem suffix_runAfter (h : List.replicate 6 b <:+ List.replicate run last ++ c :: l) :
    List.replicate 6 b <:+ List.replicate (runAfter last run c) c ++ l := by
  unfold runAfter
  split
  · next hc =>
    subst hc
    rwa [List.replicate_succ' (n := run), List.append_assoc]
  · next hc =>
    have hlast : last = !c := Bool.eq_not_of_ne (Ne.symm hc)
    cases run with
    | zero => exact h
    | succ k =>
      rw [List.replicate_succ' (n := k), List.append_assoc, hlast] at h
      exact suffix_of_change h

theorem runAfter_le (h : run < 6) : runAfter last run c ≤ 6 := by
  unfold runAfter
  split <;> omega

theorem eq_six_of_suffix (hrun : run ≤ 6) (h : List.replicate 6 b <:+ List.replicate run last) : run = 6 ∧ last = b := by
  have hlen := h.length_le
  rw [List.length_replicate, List.length_replicate] at hlen
  have hsix : run = 6 := by omega
  subst hsix
  exact ⟨rfl, (List.eq_of_mem_replicate (h.subset (List.mem_replicate.mpr ⟨by decide, rfl⟩))).symm⟩

/-- Where the levels come to six equal ones short of their end, the reader stands at a bit, six of that level read. -/
theorem take_of_six (hrun : run ≤ 6) (hn : n < (stuffed last run l).length)
    (h : List.replicate 6 b <:+ List.replicate run last ++ (stuffed last run l).take n) :
    ∃ k ≤ l.length, LineReader.take k ⟨last, run, (stuffed last run l).take n ++ b :: rest⟩ = some (l.take k, ⟨b, 6, b :: rest⟩) := by
  induction l generalizing last run n with
  | nil =>
    rw [stuffed] at hn
    split at hn
    · next hsix =>
      obtain rfl : n = 0 := by simpa using hn
      rw [List.take_zero, List.append_nil] at h
      obtain ⟨rfl, rfl⟩ := eq_six_of_suffix hrun h
      exact ⟨0, le_rfl, rfl⟩
    · cases hn
  | cons c l ih =>
    cases n with
    | zero =>
      rw [List.take_zero, List.append_nil] at h
      obtain ⟨rfl, rfl⟩ := eq_six_of_suffix hrun h
      exact ⟨0, Nat.zero_le _, rfl⟩
    | succ n =>
      by_cases hsix : run = 6
      · subst hsix
        rw [stuffed_cons_six] at hn h ⊢
        rw [List.take_succ_cons] at h ⊢
        replace h := suffix_runAfter h
        cases n with
        | zero => exact absurd h.length_le (by cases last <;> simp [runAfter])
        | succ n =>
          rw [List.take_succ_cons] at h ⊢
          replace h := suffix_runAfter h
          have hone : runAfter last 6 (!last) = 1 := by cases last <;> rfl
          rw [hone] at h
          obtain ⟨k, hk, htake⟩ := ih (runAfter_le (by decide)) (by simpa using hn) h
          refine ⟨k + 1, Nat.succ_le_succ hk, ?_⟩
          rw [List.cons_append, List.cons_append, take_succ unstuffed_six, htake]
          rfl
      · rw [stuffed_cons hsix] at hn h ⊢
        rw [List.take_succ_cons] at h ⊢
        obtain ⟨k, hk, htake⟩ := ih (runAfter_le (by omega)) (by simpa using hn) (suffix_runAfter h)
        refine ⟨k + 1, Nat.succ_le_succ hk, ?_⟩
        rw [List.cons_append, take_succ (unstuffed_of_ne hsix), htake]
        rfl

/-- Reading on past some bits is reading them and then the rest. -/
theorem take_add {m : Nat} (h : LineReader.take (n + m) r = some (l, u)) :
    ∃ v, LineReader.take n r = some (l.take n, v) ∧ LineReader.take m v = some (l.drop n, u) := by
  induction n generalizing r l with
  | zero => exact ⟨r, rfl, by rwa [Nat.zero_add] at h⟩
  | succ n ih =>
    rw [Nat.succ_add, LineReader.take] at h
    split at h
    · cases h
    · next hu =>
      dsimp only at h
      split at h
      · cases h
      · next hq =>
        cases h
        obtain ⟨v, hn, hm⟩ := ih hq
        refine ⟨v, ?_, hm⟩
        rw [LineReader.take, hu]
        dsimp only
        rw [hn]
        rfl

/-- Where the reader is stuck, it reads nothing further. -/
theorem take_past (h : LineReader.take n r = some (l, u)) (hu : u.unstuffed = none) (m : Nat) : LineReader.take (n + m + 1) r = none := by
  by_contra hc
  obtain ⟨⟨l', u'⟩, hc⟩ := Option.ne_none_iff_exists'.mp hc
  obtain ⟨v, hv, hm⟩ := take_add (Nat.add_assoc n m 1 ▸ hc)
  obtain ⟨-, rfl⟩ := Prod.ext_iff.mp (Option.some.inj (h.symm.trans hv))
  rw [take_succ_of_none hu] at hm
  cases hm

/-- A form error within the stuffed part makes a frame in error, its ack slot not driven (R163, R167). -/
theorem receiveLevels_of_stuck {levels : List Bool} (h : LineReader.take n ⟨true, 0, levels⟩ = some (l, u)) (hu : u.unstuffed = none)
    (hn : 20 ≤ n → n ≤ 36 + 8 * lengthField l) : receiveLevels levels = .inError false := by
  unfold receiveLevels
  rcases Nat.lt_or_ge n 20 with hlt | hge
  · obtain ⟨k, hk⟩ := Nat.exists_eq_add_of_lt hlt
    rw [hk, take_past h hu]
  · obtain ⟨k, rfl⟩ := Nat.exists_eq_add_of_le hge
    obtain ⟨v, hhead, hrest⟩ := take_add h
    have hfield : lengthField (l.take 20) = lengthField l := by
      rw [lengthField, List.drop_take, List.take_take]
      rfl
    rw [← hfield] at hn
    rw [hhead]
    dsimp only
    rw [← lengthField]
    split
    · rfl
    rcases Nat.lt_or_ge k (8 * lengthField (l.take 20) + 16) with hlt | hge
    · obtain ⟨j, hj⟩ := Nat.exists_eq_add_of_lt hlt
      rw [hj, take_past hrest hu]
    · have hk : 8 * lengthField (l.take 20) + 16 = k := by have := hn (by omega); omega
      rw [hk, hrest]
      dsimp only
      split
      · rfl
      · rw [hu]

end

end Sys2Proof.DockNet
end

section
/-! Link frames read back from their bytes, Dock Net frames from their levels, and attempts judged by what is read back (R163 to R167, R179). -/

namespace Sys2Proof.DockNet

open Sys2Proof Sys2Proof.Machine

/-! ### A link frame (R179) -/

theorem receiveWire_wire {f : LinkFrame} (h : f.body.length ≤ 249) : receiveWire f.wire = some f := by
  have hlen : (BitVec.ofNat 8 (f.body.length + 1)).toNat = f.body.length + 1 := by
    rw [BitVec.toNat_ofNat]
    omega
  have hwire : f.wire = 0xC3 :: BitVec.ofNat 8 (f.body.length + 1) :: f.kind :: (f.body ++ checkBytes (crcBytes f.covered)) := rfl
  rw [hwire, receiveWire]
  dsimp only
  rw [hlen, Nat.add_sub_cancel, List.take_left, List.drop_left, if_pos ⟨rfl, by omega, by omega, by simp [checkBytes]⟩]
  exact if_pos rfl

/-! ### A Dock Net frame received (R163, R167) -/

section
variable {f : NetWire} {b : Bool} {i n : Nat} {check tail rest : List Bool}

theorem all_take_of_dominant (h : i < n) : ((List.replicate i true ++ false :: rest).take n).all id = false := by
  obtain ⟨j, rfl⟩ := Nat.exists_eq_add_of_lt h
  simp [List.take_append, Nat.add_assoc]

/-- What a receiver makes of a frame with any check, from the levels after it (R163, R167). -/
theorem receiveLevels_check (hp : f.priority < 4) (hs : f.source < 64) (hd : f.destination < 64) (hl : f.payload.length ≤ 24)
    (hcheck : check.length = 16) : receiveLevels (stuff (false :: f.coveredBits ++ check) ++ tail) =
      if check ≠ f.checkBits then .inError false else if ((tail.drop 1).take 9).all id then .whole f else .inError f.acked := by
  have hfield : lengthField (headBits f f.payload.length) = f.payload.length := lengthField_headBits f (hl.trans_lt (by decide))
  have hpayload := length_flatMap_byteBits f.payload
  have hbits : false :: f.coveredBits ++ check = headBits f f.payload.length ++ (f.payload.flatMap byteBits ++ check) := by
    simp only [NetWire.coveredBits, headBits, List.append_assoc, List.cons_append]
  rw [hbits, receiveLevels_stuff (length_headBits _ _) (by omega) (by rw [List.length_append]; omega), hfield,
    List.drop_left' hpayload, ofBits_headBits hp hs hd (hl.trans_lt (by decide))]

theorem length_checkBits (f : NetWire) : f.checkBits.length = 16 := length_numberBits 16 _

/-- Six equal levels and then a seventh make a frame in error, wherever they stand (R163). -/
theorem receiveLevels_seventh (hl : f.payload.length ≤ 24) (hn : n < (stuff f.bits).length)
    (h : ((stuff f.bits).take n).drop (n - 6) = List.replicate 6 b) : receiveLevels ((stuff f.bits).take n ++ b :: rest) = .inError false := by
  have hsuffix : List.replicate 6 b <:+ (stuff f.bits).take n := h ▸ List.drop_suffix _ _
  rw [stuff_eq] at hn hsuffix ⊢
  obtain ⟨k, hk, htake⟩ := take_of_six (rest := rest) (Nat.zero_le 6) hn hsuffix
  refine receiveLevels_of_stuck htake unstuffed_seventh fun hge => ?_
  have hlength : f.bits.length = 36 + 8 * f.payload.length := by
    rw [bits_eq, List.length_append, List.length_append, length_headBits, length_flatMap_byteBits, length_checkBits]
    omega
  have htaken : f.bits.take k = headBits f f.payload.length ++ (f.payload.flatMap byteBits ++ f.checkBits).take (k - 20) := by
    rw [bits_eq, List.take_append, length_headBits, List.take_of_length_le (by rwa [length_headBits])]
  rw [htaken, lengthField_headBits_append, lengthField_headBits f (by omega)]
  omega

end

/-! ### Attempts (R163 to R165) -/

section
variable {before after l : List (Bool × Zone)} {a : Bool} {read : List Bool}

/-- Levels read back as driven decide nothing, but for the ack slot. -/
theorem attemptOutcome_readBack (h : ∀ x ∈ before, x.2 = .ackSlot → x.1 = !a) :
    attemptOutcome a (before ++ l) (before.map Prod.fst ++ read) = attemptOutcome a l read := by
  induction before with
  | nil => rfl
  | cons x before ih =>
    have ih := ih fun y hy => h y (List.mem_cons_of_mem _ hy)
    obtain ⟨d, z⟩ := x
    cases z with
    | start => exact ih
    | arbitration => exact (if_pos rfl).trans ih
    | body => exact (if_pos rfl).trans ih
    | ackSlot =>
      have hd : d = !a := h _ List.mem_cons_self rfl
      subst hd
      rw [← ih]
      cases a <;> rfl

/-- Stuffing drives no ack slot (R163). -/
theorem zone_of_mem_stuffFrom {last : Bool} {run : Nat} (h : ∀ x ∈ l, x.2 ≠ .ackSlot) : ∀ x ∈ stuffFrom last run l, x.2 ≠ .ackSlot := by
  induction l generalizing last run with
  | nil =>
    rw [stuffFrom]
    split <;> simp
  | cons y l ih =>
    have hy := h y List.mem_cons_self
    have ih : ∀ last run, ∀ x ∈ stuffFrom last run l, x.2 ≠ .ackSlot := fun _ _ => ih fun x hx => h x (List.mem_cons_of_mem _ hx)
    rw [stuffFrom]
    split
    · split <;> exact List.forall_mem_cons.mpr ⟨hy, List.forall_mem_cons.mpr ⟨hy, ih _ _⟩⟩
    · split <;> exact List.forall_mem_cons.mpr ⟨hy, ih _ _⟩

variable (f : NetFrame)

/-- What is driven before the ack slot: start through check, stuffed, with the zones. -/
def drivenBefore (f : NetFrame) : List (Bool × Zone) :=
  stuffFrom true 0 ((false, .start) :: f.wire.headerBits.map (·, .arbitration) ++ (f.wire.bits.drop 15).map (·, .body))

/-- What is driven after the ack slot: ack delimiter and end, recessive. -/
def drivenAfter : List (Bool × Zone) := List.replicate 9 (true, .body)

theorem driven_eq : f.driven = drivenBefore f ++ (true, .ackSlot) :: drivenAfter := rfl

theorem map_drivenBefore : (drivenBefore f).map Prod.fst = stuff f.wire.bits := by
  rw [drivenBefore, map_fst_stuffFrom, stuff_eq, List.map_append, List.map_cons, List.map_map, List.map_map]
  refine congrArg (stuffed true 0) ?_
  rw [show Prod.fst ∘ (fun b => (b, Zone.arbitration)) = id from rfl, show Prod.fst ∘ (fun b => (b, Zone.body)) = id from rfl,
    List.map_id, List.map_id]
  rfl

theorem zone_of_mem_drivenBefore : ∀ x ∈ drivenBefore f, x.2 ≠ .ackSlot := by
  refine zone_of_mem_stuffFrom fun x hx => ?_
  simp only [List.cons_append, List.mem_cons, List.mem_append, List.mem_map] at hx
  rcases hx with rfl | ⟨_, -, rfl⟩ | ⟨_, -, rfl⟩ <;> simp

theorem zone_of_mem_drivenAfter : ∀ x ∈ drivenAfter, x.2 ≠ .ackSlot := by decide

theorem line_eq : f.line = stuff f.wire.bits ++ List.replicate 10 true := by
  rw [NetFrame.line, driven_eq, List.map_append, map_drivenBefore]
  rfl

/-- The ack slot is driven recessive (R163). -/
theorem driven_ackSlot : ∀ x ∈ f.driven, x.2 = .ackSlot → x.1 = true := by
  rw [driven_eq]
  intro x hx hz
  rcases List.mem_append.mp hx with hx | hx
  · exact absurd hz (zone_of_mem_drivenBefore f x hx)
  · rcases List.mem_cons.mp hx with rfl | hx
    · rfl
    · exact absurd hz (zone_of_mem_drivenAfter x hx)

theorem attempt_line (rest : List Bool) : f.attempt (f.line ++ rest) = .transmitAttemptEnd (.wholeFrame false) := by
  have h := attemptOutcome_readBack (l := []) (a := false) (read := rest) (driven_ackSlot f)
  rwa [List.append_nil] at h

variable {f}

/-- The frame is read back as driven up to a level; from there on the rest decides. -/
theorem attempt_from (h : f.driven = before ++ l) : f.attempt (before.map Prod.fst ++ read) = attemptOutcome false l read := by
  rw [NetFrame.attempt, h]
  exact attemptOutcome_readBack fun x hx => driven_ackSlot f x (h ▸ List.mem_append_left l hx)

/-- A dominant level in the ack slot acknowledges a frame that goes out whole (R165). -/
theorem attempt_acked {d : Bool} (h : f.driven = before ++ (d, .ackSlot) :: after) (rest : List Bool) :
    f.attempt (before.map Prod.fst ++ false :: (after.map Prod.fst ++ rest)) = .transmitAttemptEnd (.wholeFrame true) := by
  obtain ⟨-, -, hafter⟩ := (List.append_cons_inj_of_notMem (fun hm => zone_of_mem_drivenBefore f _ hm rfl) fun hm =>
    zone_of_mem_drivenAfter _ hm rfl).mp ((driven_eq f).symm.trans h)
  have hrest := attemptOutcome_readBack (before := after) (l := []) (a := true) (read := rest) fun x hx hz =>
    absurd hz (zone_of_mem_drivenAfter x (hafter.symm ▸ hx))
  rw [attempt_from h]
  rwa [List.append_nil] at hrest

/-- Another level than the one driven loses the arbitration when dominant, else it is a transmit error (R164, R165). -/
theorem attempt_arbitration {d : Bool} (h : f.driven = before ++ (d, .arbitration) :: after) (rest : List Bool) :
    f.attempt (before.map Prod.fst ++ (!d) :: rest) = if d then .arbitrationLost else .transmitAttemptEnd .transmitError := by
  rw [attempt_from h]
  cases d <;> rfl

theorem attempt_body {d : Bool} (h : f.driven = before ++ (d, .body) :: after) (rest : List Bool) :
    f.attempt (before.map Prod.fst ++ (!d) :: rest) = .transmitAttemptEnd .transmitError := by
  rw [attempt_from h]
  cases d <;> rfl

end

/-! ### The idle line (R163) -/

theorem lineIdle_recessive (latest : List Bool) : lineIdle (List.replicate 11 true ++ latest) = true := by
  simp [lineIdle]

theorem lineIdle_dominant {i : Nat} (h : i < 11) (latest : List Bool) : lineIdle (List.replicate i true ++ false :: latest) = false := by
  rw [lineIdle, all_take_of_dominant h, Bool.and_false]

/-- Settles O14: the receiver undoes the stuffing bit by bit, and an attempt is decided at the first level read back that is not its own. -/
theorem framesReadBackFromTheirLines : Obligations.FramesReadBackFromTheirLines := by
  refine ⟨fun f => receiveWire_wire, fun f hp hs hd hl ack b check rest i n => ⟨?_, fun hi => ?_, fun hcheck hne => ?_, fun _ => ?_,
    fun hlow hhigh => ?_⟩, fun f rest => ⟨line_eq f, attempt_line f rest, fun before after d z h => ⟨?_, ?_, ?_⟩⟩, fun _ => rfl,
    fun latest i => ⟨lineIdle_recessive latest, fun hi => lineIdle_dominant hi latest⟩⟩
  · rw [List.append_assoc]
    refine (receiveLevels_check hp hs hd hl (length_checkBits f)).trans ?_
    rw [if_neg (not_not.mpr rfl)]
    rfl
  · refine (receiveLevels_check hp hs hd hl (length_checkBits f)).trans ?_
    rw [if_neg (not_not.mpr rfl), List.drop_succ_cons, List.drop_zero, all_take_of_dominant hi]
    rfl
  · exact (receiveLevels_check hp hs hd hl hcheck).trans (if_pos hne)
  · exact receiveLevels_seventh hl
  · exact receiveLevels_head (length_headBits f n) (hlow.trans_eq (lengthField_headBits f hhigh).symm)
  · rintro rfl
    exact attempt_acked h rest
  · rintro rfl
    exact attempt_arbitration h rest
  · rintro rfl
    exact attempt_body h rest

end Sys2Proof.DockNet
end
